-- ==== Sys2Proof/Word.lean ====
section
/-! DEFINITION. The widths of the values TBC handles, under the names the spec gives them. -/

namespace Sys2Proof

/-- A 64-bit register or bus value; bit 0 is the least significant (R8, R10). -/
abbrev Word := BitVec 64

/-- A 32-bit counter, `UST` or `MSC` (R24, R25). -/
abbrev Half := BitVec 32

/-- A byte offset `A` inside the 22-bit window, relative to `BASE` (R51). -/
abbrev Offset := BitVec 22

/-- A byte-lane mask `be`, one bit per lane (R52). -/
abbrev Lanes := BitVec 8

/-- An event word (R80). -/
abbrev EventWord := BitVec 25

/-- An RTC register index, 0 to 1023 (R202). -/
abbrev RtcIndex := BitVec 10

/-- The 8-bit datum of an RTC write (R203). -/
abbrev RtcDatum := BitVec 8

end Sys2Proof
end

