-- ==== Sys2Proof/Config.lean ====
section
/-! DEFINITION. What the spec leaves to the implementation or to the outside: the parameters marked OPEN in rule R8
and the answers of the external agents, each an uninterpreted constant, so that a theorem holds for every value. -/

namespace Sys2Proof

/-- The parameter `LANE_POLICY` of R56. The choice between the two is `Machine.lanePolicy`. -/
inductive LanePolicy where
  | strict
  | ignore
  deriving DecidableEq, Repr

/-- The parameter `LANE_BYTE_ORDER` of R55: whether lane 0 is the byte at `A` or the byte at `A + 7`. -/
inductive LaneByteOrder where
  | laneZeroLowest
  | laneZeroHighest
  deriving DecidableEq, Repr, Inhabited

/-- The two free-running tick sources of R100. -/
inductive TickSource where
  | fast
  | slow
  deriving DecidableEq, Repr, Inhabited

/-- One call TBC makes on its RTC port (R203). -/
inductive RtcCall where
  | read (idx : RtcIndex)
  | write (idx : RtcIndex) (d8 : RtcDatum)
  deriving DecidableEq, Repr

namespace Config

/-- `BASE`, the absolute address of offset 0: OPEN, any 64-bit value, used only in diagnostics (R8, D3; log 2, DESIGN CHOICE). -/
opaque base : Word

/-- The bit numbers of the status word, as a permutation of 0 to 63: its values at 0, 1 and 2 are `C1_BIT`, `C2_BIT`
and `C3_BIT`. A permutation because the spec leaves them OPEN but pairwise distinct (R8, D9; log 3, DESIGN CHOICE). -/
opaque statusBitOrder : Equiv.Perm (Fin 64)

/-- `LANE_BYTE_ORDER`: OPEN, no rule depends on it (R55, D20; log 4, DESIGN CHOICE). -/
opaque laneByteOrder : LaneByteOrder

/-- `draw_64()` of the `n`-th read of a hole: a free value under no law (R13, R61, R190; log 5, DESIGN CHOICE). -/
opaque draw : Nat → Word

/-- The answer of the external RTC to `RtcRead(idx)` after the calls in `history`, oldest first: a free value that may
depend on all of them (R203, U8; log 6, DESIGN CHOICE). -/
opaque rtcAnswer : (history : List RtcCall) → (idx : RtcIndex) → Word

/-- The order in which the two sources tick at the steps at which nothing but them acts: the `n`-th of these ticks is a
fast one where the value at `n` is even and a slow one where it is odd (`Machine.nextTick`). No order is fixed
(R73, R108; log 7, DESIGN CHOICE) but a fair one (R104): a permutation reaches the even numbers without end and the odd
ones too, and every order in which both sources tick without end is that of some permutation (log 22, DEDUCED). -/
opaque tickOrder : Equiv.Perm Nat

/-- `COINCIDENT_ORDER` at the `n`-th coincidence of the timed refinement: which of two ticks due at the same instant
comes first (R285, D12; log 8, DESIGN CHOICE). -/
opaque coincidentFirst : Nat → TickSource

end Config

end Sys2Proof
end

