-- ==== Sys2Proof/Syntax.lean ====
section
/-! DEFINITION. The abstract syntax: the blocks of the address map, the image of the persisted state, the raw event as
it is presented to TBC, and the sixty events (the "instructions" of R9), one constructor per row of
opcode_table.json. -/

namespace Sys2Proof

/-- The twelve block ids of R60. -/
inductive Block where
  | pci
  | vin1
  | vin2
  | vout
  | enet
  | audio
  | isa
  | kbdms
  | i2c
  | ustMsc
  | isaExt
  | rtc
  deriving DecidableEq, Repr

/-- The direction of a bus transaction (R50). -/
inductive Direction where
  | read
  | write
  deriving DecidableEq, Repr

/-- The ten recognized registers of the timebase block (R87). -/
inductive TimebaseReg where
  | ustMsc
  | compare1
  | compare2
  | compare3
  | ainMscUst
  | aout1MscUst
  | aout2MscUst
  | vin1MscUst
  | vin2MscUst
  | voutMscUst
  deriving DecidableEq, Repr

/-- The four recognized registers of the ISA block (R88). -/
inductive IsaReg where
  | ringbase
  | flashNicCtrl
  | intStatus
  | intMask
  deriving DecidableEq, Repr

/-- The sixteen persisted elements of R20, in the order R212 lists them. It is both the register part of the state and
the image that SAVE gives and RESTORE takes. The four ISA registers are 64 bits wide (D10; log 17, DESIGN CHOICE). -/
structure Image where
  /-- `RINGBASE` (R31). -/
  ringbase : Word
  /-- `FLASH_NIC_CTRL` (R36). -/
  flashNicCtrl : Word
  /-- `INT_STATUS` (R33). -/
  intStatus : Word
  /-- `INT_MASK` (R35). -/
  intMask : Word
  /-- `MSC`, the slow counter (R25). -/
  msc : Half
  /-- `UST`, the fast counter (R24). -/
  ust : Half
  /-- `UST_MSC`, the composite timebase, stored apart from its halves (R26, C8). -/
  ustMsc : Word
  /-- `COMPARE1` (R28). -/
  compare1 : Word
  /-- `COMPARE2` (R28). -/
  compare2 : Word
  /-- `COMPARE3` (R28). -/
  compare3 : Word
  /-- `AIN_MSC_UST` (R29). -/
  ainMscUst : Word
  /-- `AOUT1_MSC_UST` (R29). -/
  aout1MscUst : Word
  /-- `AOUT2_MSC_UST` (R29). -/
  aout2MscUst : Word
  /-- `VIN1_MSC_UST` (R29). -/
  vin1MscUst : Word
  /-- `VIN2_MSC_UST` (R29). -/
  vin2MscUst : Word
  /-- `VOUT_MSC_UST` (R29). -/
  voutMscUst : Word
  deriving DecidableEq, Repr

/-- The value of every element right after RESET (R41). -/
def Image.zero : Image where
  ringbase := 0
  flashNicCtrl := 0
  intStatus := 0
  intMask := 0
  msc := 0
  ust := 0
  ustMsc := 0
  compare1 := 0
  compare2 := 0
  compare3 := 0
  ainMscUst := 0
  aout1MscUst := 0
  aout2MscUst := 0
  vin1MscUst := 0
  vin2MscUst := 0
  voutMscUst := 0

/-- The eight values of the `kind` field (R80). -/
inductive Kind where
  | busRead
  | busWrite
  | ftick
  | stick
  | reset
  | stop
  | save
  | restore
  deriving DecidableEq, Repr

/-- One event as presented: the event word, and the operands that travel beside it and take no part in decode (R81). An
event that has no use for an operand carries a value there all the same, and it is ignored. -/
structure Event where
  word  : EventWord
  be    : Lanes
  data  : Word
  image : Image
  deriving DecidableEq, Repr

/-- The sixty events (R89). `a` is the byte offset `A`, `be` the lane mask, `d` the write data. -/
inductive Instr where
  /-- `RD.UST_MSC` (R120): read the composite timebase. -/
  | rdUstMsc (be : Lanes)
  /-- `RD.COMPARE1` (R121): read threshold 1. -/
  | rdCompare1 (be : Lanes)
  /-- `RD.COMPARE2` (R122): read threshold 2. -/
  | rdCompare2 (be : Lanes)
  /-- `RD.COMPARE3` (R123): read threshold 3. -/
  | rdCompare3 (be : Lanes)
  /-- `RD.AIN_MSC_UST` (R124): read the Audio-In snapshot. -/
  | rdAinMscUst (be : Lanes)
  /-- `RD.AOUT1_MSC_UST` (R125): read the Audio-Out-1 snapshot. -/
  | rdAout1MscUst (be : Lanes)
  /-- `RD.AOUT2_MSC_UST` (R126): read the Audio-Out-2 snapshot. -/
  | rdAout2MscUst (be : Lanes)
  /-- `RD.VIN1_MSC_UST` (R127): read the Video-In-1 snapshot. -/
  | rdVin1MscUst (be : Lanes)
  /-- `RD.VIN2_MSC_UST` (R128): read the Video-In-2 snapshot. -/
  | rdVin2MscUst (be : Lanes)
  /-- `RD.VOUT_MSC_UST` (R129): read the Video-Out snapshot. -/
  | rdVoutMscUst (be : Lanes)
  /-- `RD.UST_MSC_UNK` (R130): read any other offset of the timebase block. -/
  | rdUstMscUnk (a : Offset) (be : Lanes)
  /-- `WR.UST_MSC` (R131): write the composite timebase. -/
  | wrUstMsc (be : Lanes) (d : Word)
  /-- `WR.COMPARE1` (R132): write threshold 1. -/
  | wrCompare1 (be : Lanes) (d : Word)
  /-- `WR.COMPARE2` (R133): write threshold 2. -/
  | wrCompare2 (be : Lanes) (d : Word)
  /-- `WR.COMPARE3` (R134): write threshold 3. -/
  | wrCompare3 (be : Lanes) (d : Word)
  /-- `WR.AIN_MSC_UST` (R135): write the Audio-In snapshot. -/
  | wrAinMscUst (be : Lanes) (d : Word)
  /-- `WR.AOUT1_MSC_UST` (R136): write the Audio-Out-1 snapshot. -/
  | wrAout1MscUst (be : Lanes) (d : Word)
  /-- `WR.AOUT2_MSC_UST` (R137): write the Audio-Out-2 snapshot. -/
  | wrAout2MscUst (be : Lanes) (d : Word)
  /-- `WR.VIN1_MSC_UST` (R138): write the Video-In-1 snapshot. -/
  | wrVin1MscUst (be : Lanes) (d : Word)
  /-- `WR.VIN2_MSC_UST` (R139): write the Video-In-2 snapshot. -/
  | wrVin2MscUst (be : Lanes) (d : Word)
  /-- `WR.VOUT_MSC_UST` (R140): write the Video-Out snapshot. -/
  | wrVoutMscUst (be : Lanes) (d : Word)
  /-- `WR.UST_MSC_UNK` (R141): write any other offset of the timebase block. -/
  | wrUstMscUnk (a : Offset) (be : Lanes) (d : Word)
  /-- `RD.RINGBASE` (R150): read the ring-base/reset register. -/
  | rdRingbase (be : Lanes)
  /-- `RD.FLASH_NIC_CTRL` (R151): read the flash/LED/NIC/DPRAM control word. -/
  | rdFlashNicCtrl (be : Lanes)
  /-- `RD.INT_STATUS` (R152): read the interrupt status word. -/
  | rdIntStatus (be : Lanes)
  /-- `RD.INT_MASK` (R153): read the interrupt mask word. -/
  | rdIntMask (be : Lanes)
  /-- `RD.ISA_UNK` (R154): read any other offset of the ISA block. -/
  | rdIsaUnk (a : Offset) (be : Lanes)
  /-- `WR.RINGBASE` (R155): write the ring-base/reset register. -/
  | wrRingbase (be : Lanes) (d : Word)
  /-- `WR.FLASH_NIC_CTRL` (R156): write the flash/LED/NIC/DPRAM control word. -/
  | wrFlashNicCtrl (be : Lanes) (d : Word)
  /-- `WR.INT_STATUS` (R157): write the interrupt status word. -/
  | wrIntStatus (be : Lanes) (d : Word)
  /-- `WR.INT_MASK` (R158): write the interrupt mask word. -/
  | wrIntMask (be : Lanes) (d : Word)
  /-- `WR.ISA_UNK` (R159): write any other offset of the ISA block. -/
  | wrIsaUnk (a : Offset) (be : Lanes) (d : Word)
  /-- `RD.PCI` (R172): read the PCI stub. -/
  | rdPci (a : Offset) (be : Lanes)
  /-- `WR.PCI` (R173): write the PCI stub. -/
  | wrPci (a : Offset) (be : Lanes) (d : Word)
  /-- `RD.VIN1` (R174): read the VIN1 stub. -/
  | rdVin1 (a : Offset) (be : Lanes)
  /-- `WR.VIN1` (R175): write the VIN1 stub. -/
  | wrVin1 (a : Offset) (be : Lanes) (d : Word)
  /-- `RD.VIN2` (R176): read the VIN2 stub. -/
  | rdVin2 (a : Offset) (be : Lanes)
  /-- `WR.VIN2` (R177): write the VIN2 stub. -/
  | wrVin2 (a : Offset) (be : Lanes) (d : Word)
  /-- `RD.VOUT` (R178): read the VOUT stub. -/
  | rdVout (a : Offset) (be : Lanes)
  /-- `WR.VOUT` (R179): write the VOUT stub. -/
  | wrVout (a : Offset) (be : Lanes) (d : Word)
  /-- `RD.ENET` (R180): read the ENET stub. -/
  | rdEnet (a : Offset) (be : Lanes)
  /-- `WR.ENET` (R181): write the ENET stub. -/
  | wrEnet (a : Offset) (be : Lanes) (d : Word)
  /-- `RD.AUDIO` (R182): read the AUDIO stub. -/
  | rdAudio (a : Offset) (be : Lanes)
  /-- `WR.AUDIO` (R183): write the AUDIO stub. -/
  | wrAudio (a : Offset) (be : Lanes) (d : Word)
  /-- `RD.KBDMS` (R184): read the KBDMS stub. -/
  | rdKbdms (a : Offset) (be : Lanes)
  /-- `WR.KBDMS` (R185): write the KBDMS stub. -/
  | wrKbdms (a : Offset) (be : Lanes) (d : Word)
  /-- `RD.I2C` (R186): read the I2C stub. -/
  | rdI2c (a : Offset) (be : Lanes)
  /-- `WR.I2C` (R187): write the I2C stub. -/
  | wrI2c (a : Offset) (be : Lanes) (d : Word)
  /-- `RD.ISA_EXT` (R188): read the ISA_EXT stub. -/
  | rdIsaExt (a : Offset) (be : Lanes)
  /-- `WR.ISA_EXT` (R189): write the ISA_EXT stub. -/
  | wrIsaExt (a : Offset) (be : Lanes) (d : Word)
  /-- `RD.UNMAPPED` (R190): read a hole. -/
  | rdUnmapped (a : Offset) (be : Lanes)
  /-- `WR.UNMAPPED` (R191): write a hole. -/
  | wrUnmapped (a : Offset) (be : Lanes) (d : Word)
  /-- `RD.RTC` (R204): read the RTC range. -/
  | rdRtc (a : Offset) (be : Lanes)
  /-- `WR.RTC` (R205): write the RTC range. -/
  | wrRtc (a : Offset) (be : Lanes) (d : Word)
  /-- `FTICK` (R101): the fast tick. -/
  | ftick
  /-- `STICK` (R102): the slow tick. -/
  | stick
  /-- `RESET` (R261): device reset. -/
  | reset
  /-- `STOP` (R210): stop both tick sources. -/
  | stop
  /-- `SAVE` (R212): save the sixteen persisted elements. -/
  | save
  /-- `RESTORE` (R213): restore the sixteen persisted elements. -/
  | restore (image : Image)
  deriving DecidableEq, Repr

/-- The row of opcode_table.json an event belongs to. -/
def Instr.mnemonic : Instr → String
  | .rdUstMsc _ => "RD.UST_MSC"
  | .rdCompare1 _ => "RD.COMPARE1"
  | .rdCompare2 _ => "RD.COMPARE2"
  | .rdCompare3 _ => "RD.COMPARE3"
  | .rdAinMscUst _ => "RD.AIN_MSC_UST"
  | .rdAout1MscUst _ => "RD.AOUT1_MSC_UST"
  | .rdAout2MscUst _ => "RD.AOUT2_MSC_UST"
  | .rdVin1MscUst _ => "RD.VIN1_MSC_UST"
  | .rdVin2MscUst _ => "RD.VIN2_MSC_UST"
  | .rdVoutMscUst _ => "RD.VOUT_MSC_UST"
  | .rdUstMscUnk _ _ => "RD.UST_MSC_UNK"
  | .wrUstMsc _ _ => "WR.UST_MSC"
  | .wrCompare1 _ _ => "WR.COMPARE1"
  | .wrCompare2 _ _ => "WR.COMPARE2"
  | .wrCompare3 _ _ => "WR.COMPARE3"
  | .wrAinMscUst _ _ => "WR.AIN_MSC_UST"
  | .wrAout1MscUst _ _ => "WR.AOUT1_MSC_UST"
  | .wrAout2MscUst _ _ => "WR.AOUT2_MSC_UST"
  | .wrVin1MscUst _ _ => "WR.VIN1_MSC_UST"
  | .wrVin2MscUst _ _ => "WR.VIN2_MSC_UST"
  | .wrVoutMscUst _ _ => "WR.VOUT_MSC_UST"
  | .wrUstMscUnk _ _ _ => "WR.UST_MSC_UNK"
  | .rdRingbase _ => "RD.RINGBASE"
  | .rdFlashNicCtrl _ => "RD.FLASH_NIC_CTRL"
  | .rdIntStatus _ => "RD.INT_STATUS"
  | .rdIntMask _ => "RD.INT_MASK"
  | .rdIsaUnk _ _ => "RD.ISA_UNK"
  | .wrRingbase _ _ => "WR.RINGBASE"
  | .wrFlashNicCtrl _ _ => "WR.FLASH_NIC_CTRL"
  | .wrIntStatus _ _ => "WR.INT_STATUS"
  | .wrIntMask _ _ => "WR.INT_MASK"
  | .wrIsaUnk _ _ _ => "WR.ISA_UNK"
  | .rdPci _ _ => "RD.PCI"
  | .wrPci _ _ _ => "WR.PCI"
  | .rdVin1 _ _ => "RD.VIN1"
  | .wrVin1 _ _ _ => "WR.VIN1"
  | .rdVin2 _ _ => "RD.VIN2"
  | .wrVin2 _ _ _ => "WR.VIN2"
  | .rdVout _ _ => "RD.VOUT"
  | .wrVout _ _ _ => "WR.VOUT"
  | .rdEnet _ _ => "RD.ENET"
  | .wrEnet _ _ _ => "WR.ENET"
  | .rdAudio _ _ => "RD.AUDIO"
  | .wrAudio _ _ _ => "WR.AUDIO"
  | .rdKbdms _ _ => "RD.KBDMS"
  | .wrKbdms _ _ _ => "WR.KBDMS"
  | .rdI2c _ _ => "RD.I2C"
  | .wrI2c _ _ _ => "WR.I2C"
  | .rdIsaExt _ _ => "RD.ISA_EXT"
  | .wrIsaExt _ _ _ => "WR.ISA_EXT"
  | .rdUnmapped _ _ => "RD.UNMAPPED"
  | .wrUnmapped _ _ _ => "WR.UNMAPPED"
  | .rdRtc _ _ => "RD.RTC"
  | .wrRtc _ _ _ => "WR.RTC"
  | .ftick => "FTICK"
  | .stick => "STICK"
  | .reset => "RESET"
  | .stop => "STOP"
  | .save => "SAVE"
  | .restore _ => "RESTORE"

end Sys2Proof
end

