-- ==== Sys2Proof/Machine/State.lean ====
section
/-! DEFINITION. The state of the machine: the sixteen persisted elements and `RUNNING`, which are TBC's own (R20, R21);
the timeline of events still to come; and what TBC has put on its output ports. -/

namespace Sys2Proof.Machine

open Sys2Proof

/-- One record of the diagnostic channel, with the five fields of R224. -/
structure DiagRecord where
  block   : Block
  dir     : Direction
  absaddr : Word
  data    : Word
  be      : Lanes
  deriving DecidableEq, Repr

/-- The whole state. `regs` and `running` are the spec's state of TBC; the rest is the world at its ports: `timeline`
is the input, and the others are outputs or counters of free values, which no rule of TBC reads. -/
structure State where
  /-- The sixteen persisted elements (R20). -/
  regs : Image
  /-- `RUNNING`: the two tick sources are armed (R21). -/
  running : Bool
  /-- The events still to come, in the one order of R70, next first. -/
  timeline : List Event
  /-- `rdata` of the latest bus read; none before the first one (R50). -/
  rdata : Option Word
  /-- The image the latest SAVE gave; none before the first one (R212). -/
  saved : Option Image
  /-- The diagnostic channel, oldest record first (R224). -/
  diag : List DiagRecord
  /-- The calls made on the RTC port, oldest first (R203). -/
  rtcCalls : List RtcCall
  /-- How many hole reads have taken a free value: the MODEL's own counter (log 5, DESIGN CHOICE). -/
  draws : Nat
  /-- How many ticks the model has chosen for itself: the MODEL's own counter (log 7, DESIGN CHOICE). -/
  choices : Nat
  deriving DecidableEq, Repr

/-- The faults of TBC: none. "No exception, abort, or propagated failure is ever produced by this subsystem" (R220), so
this type has no constructor. -/
inductive Fault where
  deriving DecidableEq, Repr

/-- Why the model gives a step no meaning. -/
inductive Refusal where
  /-- Raised by an arm of `exec` whose instruction has no meaning yet. Safe: nothing is proved of it. -/
  | notModelled (mnemonic : String)
  /-- Raised by every bus event while `RUNNING` is false: the source says nothing of accessing a stopped device, and
  the spec has the model refuse (R211, D14, U13; log 10, DESIGN CHOICE). Safe: the model does less than the hardware may. -/
  | busAccessWhileStopped
  /-- Raised by `step` on a bus word whose offset is not a multiple of 8: not an event, it cannot be presented
  (R51, R84; log 11, DEDUCED). Safe. -/
  | offsetNotAligned
  /-- Raised by `step` on a non-bus word whose bits 21:0 are not zero: not an event, it cannot be presented
  (R80, R84; log 11, DEDUCED). Safe. -/
  | zeroFieldNotZero
  deriving DecidableEq, Repr

/-- The state right after RESET (R41, R264; log 15, DESIGN CHOICE), with nothing yet on any port (log 14,
DESIGN CHOICE). -/
def State.reset : State where
  regs := Image.zero
  running := true
  timeline := []
  rdata := none
  saved := none
  diag := []
  rtcCalls := []
  draws := 0
  choices := 0

/-- What an event answers. -/
abbrev Result := Host.Outcome State Fault Refusal

end Sys2Proof.Machine
end

