-- ==== Sys2Proof/Machine/Flags.lean ====
section
/-! DEFINITION. The composite timebase, compare evaluation and the interrupt status bits it latches, the one tick of
each source, and the named bits of the flash/NIC control word. -/

namespace Sys2Proof.Machine

open Sys2Proof

/-! ### The composite (R26) -/

/-- `(zext_64(u) << 32) | zext_64(m)`. -/
def compose (u m : Half) : Word := (u.setWidth 64 <<< 32) ||| m.setWidth 64

/-- Bits 63:32 of a composite value: its UST half. -/
def ustHalf (v : Word) : Half := v.extractLsb' 32 32

/-- Bits 31:0 of a composite value: its MSC half. -/
def mscHalf (v : Word) : Half := v.extractLsb' 0 32

/-! ### The status bits (R33) -/

/-- `C1_BIT`. -/
def c1Bit : Nat := (Config.statusBitOrder 0).val

/-- `C2_BIT`. -/
def c2Bit : Nat := (Config.statusBitOrder 1).val

/-- `C3_BIT`. -/
def c3Bit : Nat := (Config.statusBitOrder 2).val

/-- `1 << n` in 64 bits. -/
def bitMask (n : Nat) : Word := 1#64 <<< n

/-- The status word after one comparator: its bit is OR'd in on a match and nothing is ever cleared (R103). -/
def latchOnMatch (composite threshold : Word) (n : Nat) (status : Word) : Word :=
  if composite = threshold then status ||| bitMask n else status

/-- The status word after the three tests of `CmpEval`, under given bit numbers (R103). -/
def statusAfterCompare (n1 n2 n3 : Nat) (r : Image) : Word :=
  latchOnMatch r.ustMsc r.compare3 n3
    (latchOnMatch r.ustMsc r.compare2 n2
      (latchOnMatch r.ustMsc r.compare1 n1 r.intStatus))

/-- `CmpEval` (R103). -/
def compareEvaluate (r : Image) : Image :=
  { r with intStatus := statusAfterCompare c1Bit c2Bit c3Bit r }

/-! ### The ticks -/

/-- The counter and composite part of FTICK: the new `UST` in bits 63:32, the old composite's bits 31:0 kept (R101). -/
def countFast (r : Image) : Image :=
  { r with ust := r.ust + 1, ustMsc := compose (r.ust + 1) (mscHalf r.ustMsc) }

/-- The counter and composite part of STICK: the old composite's bits 63:32 kept, the new `MSC` in bits 31:0 (R102). -/
def countSlow (r : Image) : Image :=
  { r with msc := r.msc + 1, ustMsc := compose (ustHalf r.ustMsc) (r.msc + 1) }

/-- FTICK on the registers: count, then compare (R101, R105). -/
def fastTick (r : Image) : Image := compareEvaluate (countFast r)

/-- STICK on the registers: count, then compare (R102, R105). -/
def slowTick (r : Image) : Image := compareEvaluate (countSlow r)

/-! ### The named bits of FLASH_NIC_CTRL (R36)

TBC stores them and drives nothing from them; these are the names a consumer reads them by. -/

/-- Bit 0, enable flash writes. -/
def enableFlashWrites (r : Image) : Bool := r.flashNicCtrl.getLsbD 0

/-- Bit 2, NIC deassert. -/
def nicDeassert (r : Image) : Bool := r.flashNicCtrl.getLsbD 2

/-- Bit 3, NIC data. -/
def nicData (r : Image) : Bool := r.flashNicCtrl.getLsbD 3

/-- Bit 4, red LED. -/
def redLed (r : Image) : Bool := r.flashNicCtrl.getLsbD 4

/-- Bit 5, green LED. -/
def greenLed (r : Image) : Bool := r.flashNicCtrl.getLsbD 5

/-- Bit 6, DP-RAM enable. -/
def dpRamEnable (r : Image) : Bool := r.flashNicCtrl.getLsbD 6

end Sys2Proof.Machine
end

