-- ==== Sys2Proof/WellFormed.lean ====
section
/-! DEFINITION. When an event can be presented to TBC: its byte offset is a multiple of 8 inside the range its rule
gives, and an "any other offset" event is at none of the recognized registers. The ranges are those of the event rules
R130, R141, R154, R159, R172 to R191, R204 and R205, written here apart from the decoder. -/

namespace Sys2Proof

/-- A multiple of 8 from `first` to `last`, both included. -/
def offsetBetween (first last : Nat) (a : Offset) : Bool :=
  a.toNat % 8 == 0 && first ≤ a.toNat && a.toNat ≤ last

/-- The offsets of the two holes (R190, R191). -/
def offsetInHole (a : Offset) : Bool :=
  offsetBetween 0x340000 0x37FFF8 a || offsetBetween 0x3A8000 0x3FFFF8 a

/-- The checks on the operands of each event; an event with no offset operand has none. -/
def Instr.wellFormed : Instr → Bool
  | .rdUstMsc _ => true
  | .rdCompare1 _ => true
  | .rdCompare2 _ => true
  | .rdCompare3 _ => true
  | .rdAinMscUst _ => true
  | .rdAout1MscUst _ => true
  | .rdAout2MscUst _ => true
  | .rdVin1MscUst _ => true
  | .rdVin2MscUst _ => true
  | .rdVoutMscUst _ => true
  | .rdUstMscUnk a _ => offsetBetween 0x330050 0x33FFF8 a
  | .wrUstMsc _ _ => true
  | .wrCompare1 _ _ => true
  | .wrCompare2 _ _ => true
  | .wrCompare3 _ _ => true
  | .wrAinMscUst _ _ => true
  | .wrAout1MscUst _ _ => true
  | .wrAout2MscUst _ _ => true
  | .wrVin1MscUst _ _ => true
  | .wrVin2MscUst _ _ => true
  | .wrVoutMscUst _ _ => true
  | .wrUstMscUnk a _ _ => offsetBetween 0x330050 0x33FFF8 a
  | .rdRingbase _ => true
  | .rdFlashNicCtrl _ => true
  | .rdIntStatus _ => true
  | .rdIntMask _ => true
  | .rdIsaUnk a _ => offsetBetween 0x300020 0x30FFF8 a
  | .wrRingbase _ _ => true
  | .wrFlashNicCtrl _ _ => true
  | .wrIntStatus _ _ => true
  | .wrIntMask _ _ => true
  | .wrIsaUnk a _ _ => offsetBetween 0x300020 0x30FFF8 a
  | .rdPci a _ => offsetBetween 0x000000 0x07FFF8 a
  | .wrPci a _ _ => offsetBetween 0x000000 0x07FFF8 a
  | .rdVin1 a _ => offsetBetween 0x080000 0x0FFFF8 a
  | .wrVin1 a _ _ => offsetBetween 0x080000 0x0FFFF8 a
  | .rdVin2 a _ => offsetBetween 0x100000 0x17FFF8 a
  | .wrVin2 a _ _ => offsetBetween 0x100000 0x17FFF8 a
  | .rdVout a _ => offsetBetween 0x180000 0x1FFFF8 a
  | .wrVout a _ _ => offsetBetween 0x180000 0x1FFFF8 a
  | .rdEnet a _ => offsetBetween 0x200000 0x27FFF8 a
  | .wrEnet a _ _ => offsetBetween 0x200000 0x27FFF8 a
  | .rdAudio a _ => offsetBetween 0x280000 0x2FFFF8 a
  | .wrAudio a _ _ => offsetBetween 0x280000 0x2FFFF8 a
  | .rdKbdms a _ => offsetBetween 0x310000 0x31FFF8 a
  | .wrKbdms a _ _ => offsetBetween 0x310000 0x31FFF8 a
  | .rdI2c a _ => offsetBetween 0x320000 0x32FFF8 a
  | .wrI2c a _ _ => offsetBetween 0x320000 0x32FFF8 a
  | .rdIsaExt a _ => offsetBetween 0x380000 0x39FFF8 a
  | .wrIsaExt a _ _ => offsetBetween 0x380000 0x39FFF8 a
  | .rdUnmapped a _ => offsetInHole a
  | .wrUnmapped a _ _ => offsetInHole a
  | .rdRtc a _ => offsetBetween 0x3A0000 0x3A7FF8 a
  | .wrRtc a _ _ => offsetBetween 0x3A0000 0x3A7FF8 a
  | .ftick => true
  | .stick => true
  | .reset => true
  | .stop => true
  | .save => true
  | .restore _ => true

end Sys2Proof
end

