-- ==== Sys2Proof/Decode.lean ====
section
/-! DEFINITION. Decoding an event (R80 to R90): the kind, the block by range, the register by exact offset match; then
the encoder, written from the same formats; then the opcode table itself, so that the two descriptions can be proved
to agree. -/

namespace Sys2Proof

/-! ### Field extraction -/

/-- Bits 24:22 of the event word (R80). -/
def kindField (w : EventWord) : BitVec 3 := w.extractLsb' 22 3

/-- Bits 21:0 of the event word: the byte offset `A` of a bus event, zero in the others (R80). -/
def offsetField (w : EventWord) : Offset := w.extractLsb' 0 22

/-- The kind numbers of R80. -/
def kindOf (k : BitVec 3) : Kind :=
  match k.toNat with
  | 0 => .busRead
  | 1 => .busWrite
  | 2 => .ftick
  | 3 => .stick
  | 4 => .reset
  | 5 => .stop
  | 6 => .save
  | _ => .restore

/-! ### The address map -/

/-- One row of the address map: the offsets from `first` to `last`, both included, belong to `block`. -/
structure SubRange where
  block : Block
  first : Offset
  last  : Offset
  deriving DecidableEq, Repr

/-- The twelve sub-ranges of R60, with the two corrected ends (C1, C2, D4; log 16,
DESIGN CHOICE). -/
def addressMap : List SubRange :=
  [ ⟨.pci,    0x000000, 0x07FFFF⟩,
    ⟨.vin1,   0x080000, 0x0FFFFF⟩,
    ⟨.vin2,   0x100000, 0x17FFFF⟩,
    ⟨.vout,   0x180000, 0x1FFFFF⟩,
    ⟨.enet,   0x200000, 0x27FFFF⟩,
    ⟨.audio,  0x280000, 0x2FFFFF⟩,
    ⟨.isa,    0x300000, 0x30FFFF⟩,
    ⟨.kbdms,  0x310000, 0x31FFFF⟩,
    ⟨.i2c,    0x320000, 0x32FFFF⟩,
    ⟨.ustMsc, 0x330000, 0x33FFFF⟩,
    ⟨.isaExt, 0x380000, 0x39FFFF⟩,
    ⟨.rtc,    0x3A0000, 0x3A7FFF⟩ ]

/-- `Decode(A)` of R62: the block whose row holds the offset, or none in a hole. -/
def blockAt (a : Offset) : Option Block :=
  (addressMap.find? fun r => decide (r.first ≤ a) && decide (a ≤ r.last)).map SubRange.block

/-- `First(blk)` of R60. -/
def firstOffset : Block → Offset
  | .pci    => 0x000000
  | .vin1   => 0x080000
  | .vin2   => 0x100000
  | .vout   => 0x180000
  | .enet   => 0x200000
  | .audio  => 0x280000
  | .isa    => 0x300000
  | .kbdms  => 0x310000
  | .i2c    => 0x320000
  | .ustMsc => 0x330000
  | .isaExt => 0x380000
  | .rtc    => 0x3A0000

/-! ### Register selection -/

/-- The recognized offsets of the timebase block, relative to its first offset (R87). -/
def timebaseOffset : TimebaseReg → Offset
  | .ustMsc => 0x00
  | .compare1 => 0x08
  | .compare2 => 0x10
  | .compare3 => 0x18
  | .ainMscUst => 0x20
  | .aout1MscUst => 0x28
  | .aout2MscUst => 0x30
  | .vin1MscUst => 0x38
  | .vin2MscUst => 0x40
  | .voutMscUst => 0x48

/-- The recognized offsets of the ISA block, relative to its first offset (R88). -/
def isaOffset : IsaReg → Offset
  | .ringbase => 0x00
  | .flashNicCtrl => 0x08
  | .intStatus => 0x10
  | .intMask => 0x18

/-- The registers of the timebase block, in the order of R87. -/
def timebaseRegs : List TimebaseReg :=
  [.ustMsc, .compare1, .compare2, .compare3, .ainMscUst,
   .aout1MscUst, .aout2MscUst, .vin1MscUst, .vin2MscUst, .voutMscUst]

/-- The registers of the ISA block, in the order of R88. -/
def isaRegs : List IsaReg := [.ringbase, .flashNicCtrl, .intStatus, .intMask]

/-- The timebase register at a block-relative offset: "exact, not ranged" (R87). -/
def timebaseRegAt (boff : Offset) : Option TimebaseReg := timebaseRegs.find? fun r => timebaseOffset r == boff

/-- The ISA register at a block-relative offset (R88). -/
def isaRegAt (boff : Offset) : Option IsaReg := isaRegs.find? fun r => isaOffset r == boff

/-- The read event of a timebase register (R120 to R129). -/
def timebaseReadEvent (be : Lanes) : TimebaseReg → Instr
  | .ustMsc => .rdUstMsc be
  | .compare1 => .rdCompare1 be
  | .compare2 => .rdCompare2 be
  | .compare3 => .rdCompare3 be
  | .ainMscUst => .rdAinMscUst be
  | .aout1MscUst => .rdAout1MscUst be
  | .aout2MscUst => .rdAout2MscUst be
  | .vin1MscUst => .rdVin1MscUst be
  | .vin2MscUst => .rdVin2MscUst be
  | .voutMscUst => .rdVoutMscUst be

/-- The write event of a timebase register (R131 to R140). -/
def timebaseWriteEvent (be : Lanes) (d : Word) : TimebaseReg → Instr
  | .ustMsc => .wrUstMsc be d
  | .compare1 => .wrCompare1 be d
  | .compare2 => .wrCompare2 be d
  | .compare3 => .wrCompare3 be d
  | .ainMscUst => .wrAinMscUst be d
  | .aout1MscUst => .wrAout1MscUst be d
  | .aout2MscUst => .wrAout2MscUst be d
  | .vin1MscUst => .wrVin1MscUst be d
  | .vin2MscUst => .wrVin2MscUst be d
  | .voutMscUst => .wrVoutMscUst be d

/-- The read event of an ISA register (R150 to R153). -/
def isaReadEvent (be : Lanes) : IsaReg → Instr
  | .ringbase => .rdRingbase be
  | .flashNicCtrl => .rdFlashNicCtrl be
  | .intStatus => .rdIntStatus be
  | .intMask => .rdIntMask be

/-- The write event of an ISA register (R155 to R158). -/
def isaWriteEvent (be : Lanes) (d : Word) : IsaReg → Instr
  | .ringbase => .wrRingbase be d
  | .flashNicCtrl => .wrFlashNicCtrl be d
  | .intStatus => .wrIntStatus be d
  | .intMask => .wrIntMask be d

/-! ### Decoding -/

/-- The event of a bus read at offset `a`: block by range, then register by exact match (R84 to R88). -/
def busReadEvent (a : Offset) (be : Lanes) : Instr :=
  match blockAt a with
  | none => .rdUnmapped a be
  | some .ustMsc =>
    match timebaseRegAt (a - firstOffset .ustMsc) with
    | some r => timebaseReadEvent be r
    | none => .rdUstMscUnk a be
  | some .isa =>
    match isaRegAt (a - firstOffset .isa) with
    | some r => isaReadEvent be r
    | none => .rdIsaUnk a be
  | some .rtc => .rdRtc a be
  | some .pci => .rdPci a be
  | some .vin1 => .rdVin1 a be
  | some .vin2 => .rdVin2 a be
  | some .vout => .rdVout a be
  | some .enet => .rdEnet a be
  | some .audio => .rdAudio a be
  | some .kbdms => .rdKbdms a be
  | some .i2c => .rdI2c a be
  | some .isaExt => .rdIsaExt a be

/-- The event of a bus write of `d` at offset `a` (R84 to R88). -/
def busWriteEvent (a : Offset) (be : Lanes) (d : Word) : Instr :=
  match blockAt a with
  | none => .wrUnmapped a be d
  | some .ustMsc =>
    match timebaseRegAt (a - firstOffset .ustMsc) with
    | some r => timebaseWriteEvent be d r
    | none => .wrUstMscUnk a be d
  | some .isa =>
    match isaRegAt (a - firstOffset .isa) with
    | some r => isaWriteEvent be d r
    | none => .wrIsaUnk a be d
  | some .rtc => .wrRtc a be d
  | some .pci => .wrPci a be d
  | some .vin1 => .wrVin1 a be d
  | some .vin2 => .wrVin2 a be d
  | some .vout => .wrVout a be d
  | some .enet => .wrEnet a be d
  | some .audio => .wrAudio a be d
  | some .kbdms => .wrKbdms a be d
  | some .i2c => .wrI2c a be d
  | some .isaExt => .wrIsaExt a be d

/-- Why a word is not an event: the two conditions of R84. -/
inductive DecodeError where
  /-- A bus word whose `A[2:0]` is not zero. -/
  | offsetNotAligned
  /-- A non-bus word whose bits 21:0 are not zero. -/
  | zeroFieldNotZero
  deriving DecidableEq, Repr

/-- What decoding a presented event gives. -/
inductive Decoded where
  | event (i : Instr)
  | rejected (why : DecodeError)
  deriving DecidableEq, Repr

/-- A bus word decodes only with `A[2:0] = 0` (R84). -/
def ifAligned (a : Offset) (i : Instr) : Decoded :=
  if a.extractLsb' 0 3 = 0 then .event i else .rejected .offsetNotAligned

/-- A non-bus word decodes only with bits 21:0 zero (R80, R84). -/
def ifZero (a : Offset) (i : Instr) : Decoded :=
  if a = 0 then .event i else .rejected .zeroFieldNotZero

/-- The event a presented word and its operands stand for; the operands take no part in the choice (R81). -/
def decode (e : Event) : Decoded :=
  let a := offsetField e.word
  match kindOf (kindField e.word) with
  | .busRead  => ifAligned a (busReadEvent a e.be)
  | .busWrite => ifAligned a (busWriteEvent a e.be e.data)
  | .ftick    => ifZero a .ftick
  | .stick    => ifZero a .stick
  | .reset    => ifZero a .reset
  | .stop     => ifZero a .stop
  | .save     => ifZero a .save
  | .restore  => ifZero a (.restore e.image)

/-- The event whose word is given and whose other operands are all zero. -/
def bareEvent (w : EventWord) : Event := ⟨w, 0, 0, Image.zero⟩

/-- The instruction read from an event numbered as opcode_table.json numbers it: `w` is the 25-bit event word, and the
operands beside it, which the table gives no bits, are zero. No event word is 2^25 or more. -/
def decodeTableWord (nbits w : Nat) : Option Instr :=
  if w % 2 ^ nbits < 2 ^ 25 then
    match decode (bareEvent (BitVec.ofNat 25 (w % 2 ^ nbits))) with
    | .event i => some i
    | .rejected _ => none
  else none

/-! ### Encoding -/

/-- The `kind` codes of R80. -/
def kindCode : Kind → BitVec 3
  | .busRead  => 0b000
  | .busWrite => 0b001
  | .ftick    => 0b010
  | .stick    => 0b011
  | .reset    => 0b100
  | .stop     => 0b101
  | .save     => 0b110
  | .restore  => 0b111

/-- The event word `(kind << 22) | A`. -/
def eventWord (k : Kind) (a : Offset) : EventWord := kindCode k ++ a

/-- `RD <A>, be=<be>` of R91. -/
def rdEvent (a : Offset) (be : Lanes) : Event := ⟨eventWord .busRead a, be, 0, Image.zero⟩

/-- `WR <A>, <d>, be=<be>` of R91. -/
def wrEvent (a : Offset) (be : Lanes) (d : Word) : Event := ⟨eventWord .busWrite a, be, d, Image.zero⟩

/-- An event of format `E` (R80); only RESTORE uses the image. -/
def hostEvent (k : Kind) (image : Image) : Event := ⟨eventWord k 0, 0, 0, image⟩

/-- The byte offset of a timebase register (R87). -/
def timebaseAddress (r : TimebaseReg) : Offset := firstOffset .ustMsc + timebaseOffset r

/-- The byte offset of an ISA register (R88). -/
def isaAddress (r : IsaReg) : Offset := firstOffset .isa + isaOffset r

/-- The presented form of each event. -/
def encode : Instr → Event
  | .rdUstMsc be => rdEvent (timebaseAddress .ustMsc) be
  | .rdCompare1 be => rdEvent (timebaseAddress .compare1) be
  | .rdCompare2 be => rdEvent (timebaseAddress .compare2) be
  | .rdCompare3 be => rdEvent (timebaseAddress .compare3) be
  | .rdAinMscUst be => rdEvent (timebaseAddress .ainMscUst) be
  | .rdAout1MscUst be => rdEvent (timebaseAddress .aout1MscUst) be
  | .rdAout2MscUst be => rdEvent (timebaseAddress .aout2MscUst) be
  | .rdVin1MscUst be => rdEvent (timebaseAddress .vin1MscUst) be
  | .rdVin2MscUst be => rdEvent (timebaseAddress .vin2MscUst) be
  | .rdVoutMscUst be => rdEvent (timebaseAddress .voutMscUst) be
  | .rdUstMscUnk a be => rdEvent a be
  | .wrUstMsc be d => wrEvent (timebaseAddress .ustMsc) be d
  | .wrCompare1 be d => wrEvent (timebaseAddress .compare1) be d
  | .wrCompare2 be d => wrEvent (timebaseAddress .compare2) be d
  | .wrCompare3 be d => wrEvent (timebaseAddress .compare3) be d
  | .wrAinMscUst be d => wrEvent (timebaseAddress .ainMscUst) be d
  | .wrAout1MscUst be d => wrEvent (timebaseAddress .aout1MscUst) be d
  | .wrAout2MscUst be d => wrEvent (timebaseAddress .aout2MscUst) be d
  | .wrVin1MscUst be d => wrEvent (timebaseAddress .vin1MscUst) be d
  | .wrVin2MscUst be d => wrEvent (timebaseAddress .vin2MscUst) be d
  | .wrVoutMscUst be d => wrEvent (timebaseAddress .voutMscUst) be d
  | .wrUstMscUnk a be d => wrEvent a be d
  | .rdRingbase be => rdEvent (isaAddress .ringbase) be
  | .rdFlashNicCtrl be => rdEvent (isaAddress .flashNicCtrl) be
  | .rdIntStatus be => rdEvent (isaAddress .intStatus) be
  | .rdIntMask be => rdEvent (isaAddress .intMask) be
  | .rdIsaUnk a be => rdEvent a be
  | .wrRingbase be d => wrEvent (isaAddress .ringbase) be d
  | .wrFlashNicCtrl be d => wrEvent (isaAddress .flashNicCtrl) be d
  | .wrIntStatus be d => wrEvent (isaAddress .intStatus) be d
  | .wrIntMask be d => wrEvent (isaAddress .intMask) be d
  | .wrIsaUnk a be d => wrEvent a be d
  | .rdPci a be => rdEvent a be
  | .wrPci a be d => wrEvent a be d
  | .rdVin1 a be => rdEvent a be
  | .wrVin1 a be d => wrEvent a be d
  | .rdVin2 a be => rdEvent a be
  | .wrVin2 a be d => wrEvent a be d
  | .rdVout a be => rdEvent a be
  | .wrVout a be d => wrEvent a be d
  | .rdEnet a be => rdEvent a be
  | .wrEnet a be d => wrEvent a be d
  | .rdAudio a be => rdEvent a be
  | .wrAudio a be d => wrEvent a be d
  | .rdKbdms a be => rdEvent a be
  | .wrKbdms a be d => wrEvent a be d
  | .rdI2c a be => rdEvent a be
  | .wrI2c a be d => wrEvent a be d
  | .rdIsaExt a be => rdEvent a be
  | .wrIsaExt a be d => wrEvent a be d
  | .rdUnmapped a be => rdEvent a be
  | .wrUnmapped a be d => wrEvent a be d
  | .rdRtc a be => rdEvent a be
  | .wrRtc a be d => wrEvent a be d
  | .ftick => hostEvent .ftick Image.zero
  | .stick => hostEvent .stick Image.zero
  | .reset => hostEvent .reset Image.zero
  | .stop => hostEvent .stop Image.zero
  | .save => hostEvent .save Image.zero
  | .restore image => hostEvent .restore image

/-! ### Pseudo-events (R12, R92) -/

/-- `MemRead(A, 8)` is `RD A, be=0xFF`. -/
def memReadEvent (a : Offset) : Event := rdEvent a 0xFF

/-- `MemWrite(A, 8, v)` is `WR A, v, be=0xFF`. -/
def memWriteEvent (a : Offset) (v : Word) : Event := wrEvent a 0xFF v

/-- `FTICK*n`. -/
def fticks (n : Nat) : List Event := List.replicate n (hostEvent .ftick Image.zero)

/-- `STICK*n`. -/
def sticks (n : Nat) : List Event := List.replicate n (hostEvent .stick Image.zero)

/-! ### The opcode table -/

/-- One row of opcode_table.json: a word fits it when it agrees with `bits` wherever `mask` has a 1 (R84). -/
structure OpcodeRow where
  mnemonic : String
  bits     : EventWord
  mask     : EventWord
  deriving DecidableEq, Repr

/-- The mask of a row that fixes all 25 bits. -/
def wholeWord : EventWord := 0x1FFFFFF

/-- The register rows of the timebase block. -/
def timebaseRows : List OpcodeRow :=
  [ ⟨"RD.UST_MSC", 0x0330000, wholeWord⟩,
    ⟨"RD.COMPARE1", 0x0330008, wholeWord⟩,
    ⟨"RD.COMPARE2", 0x0330010, wholeWord⟩,
    ⟨"RD.COMPARE3", 0x0330018, wholeWord⟩,
    ⟨"RD.AIN_MSC_UST", 0x0330020, wholeWord⟩,
    ⟨"RD.AOUT1_MSC_UST", 0x0330028, wholeWord⟩,
    ⟨"RD.AOUT2_MSC_UST", 0x0330030, wholeWord⟩,
    ⟨"RD.VIN1_MSC_UST", 0x0330038, wholeWord⟩,
    ⟨"RD.VIN2_MSC_UST", 0x0330040, wholeWord⟩,
    ⟨"RD.VOUT_MSC_UST", 0x0330048, wholeWord⟩,
    ⟨"WR.UST_MSC", 0x0730000, wholeWord⟩,
    ⟨"WR.COMPARE1", 0x0730008, wholeWord⟩,
    ⟨"WR.COMPARE2", 0x0730010, wholeWord⟩,
    ⟨"WR.COMPARE3", 0x0730018, wholeWord⟩,
    ⟨"WR.AIN_MSC_UST", 0x0730020, wholeWord⟩,
    ⟨"WR.AOUT1_MSC_UST", 0x0730028, wholeWord⟩,
    ⟨"WR.AOUT2_MSC_UST", 0x0730030, wholeWord⟩,
    ⟨"WR.VIN1_MSC_UST", 0x0730038, wholeWord⟩,
    ⟨"WR.VIN2_MSC_UST", 0x0730040, wholeWord⟩,
    ⟨"WR.VOUT_MSC_UST", 0x0730048, wholeWord⟩ ]

/-- The register rows of the ISA block. -/
def isaRows : List OpcodeRow :=
  [ ⟨"RD.RINGBASE", 0x0300000, wholeWord⟩,
    ⟨"RD.FLASH_NIC_CTRL", 0x0300008, wholeWord⟩,
    ⟨"RD.INT_STATUS", 0x0300010, wholeWord⟩,
    ⟨"RD.INT_MASK", 0x0300018, wholeWord⟩,
    ⟨"WR.RINGBASE", 0x0700000, wholeWord⟩,
    ⟨"WR.FLASH_NIC_CTRL", 0x0700008, wholeWord⟩,
    ⟨"WR.INT_STATUS", 0x0700010, wholeWord⟩,
    ⟨"WR.INT_MASK", 0x0700018, wholeWord⟩ ]

/-- The rows that hold a whole block (R86). -/
def blockRows : List OpcodeRow :=
  [ ⟨"RD.UST_MSC_UNK", 0x0330000, 0x1FF0000⟩,
    ⟨"WR.UST_MSC_UNK", 0x0730000, 0x1FF0000⟩,
    ⟨"RD.ISA_UNK", 0x0300000, 0x1FF0000⟩,
    ⟨"WR.ISA_UNK", 0x0700000, 0x1FF0000⟩,
    ⟨"RD.RTC", 0x03A0000, 0x1FF8000⟩,
    ⟨"WR.RTC", 0x07A0000, 0x1FF8000⟩,
    ⟨"RD.PCI", 0x0000000, 0x1F80000⟩,
    ⟨"WR.PCI", 0x0400000, 0x1F80000⟩,
    ⟨"RD.VIN1", 0x0080000, 0x1F80000⟩,
    ⟨"WR.VIN1", 0x0480000, 0x1F80000⟩,
    ⟨"RD.VIN2", 0x0100000, 0x1F80000⟩,
    ⟨"WR.VIN2", 0x0500000, 0x1F80000⟩,
    ⟨"RD.VOUT", 0x0180000, 0x1F80000⟩,
    ⟨"WR.VOUT", 0x0580000, 0x1F80000⟩,
    ⟨"RD.ENET", 0x0200000, 0x1F80000⟩,
    ⟨"WR.ENET", 0x0600000, 0x1F80000⟩,
    ⟨"RD.AUDIO", 0x0280000, 0x1F80000⟩,
    ⟨"WR.AUDIO", 0x0680000, 0x1F80000⟩,
    ⟨"RD.KBDMS", 0x0310000, 0x1FF0000⟩,
    ⟨"WR.KBDMS", 0x0710000, 0x1FF0000⟩,
    ⟨"RD.I2C", 0x0320000, 0x1FF0000⟩,
    ⟨"WR.I2C", 0x0720000, 0x1FF0000⟩,
    ⟨"RD.ISA_EXT", 0x0380000, 0x1FE0000⟩,
    ⟨"WR.ISA_EXT", 0x0780000, 0x1FE0000⟩ ]

/-- The catch-all rows, which decode only the holes (R85). -/
def catchAllRows : List OpcodeRow :=
  [ ⟨"RD.UNMAPPED", 0x0000000, 0x1C00000⟩,
    ⟨"WR.UNMAPPED", 0x0400000, 0x1C00000⟩ ]

/-- The rows of format `E` (R80). -/
def hostRows : List OpcodeRow :=
  [ ⟨"FTICK", 0x0800000, wholeWord⟩,
    ⟨"STICK", 0x0C00000, wholeWord⟩,
    ⟨"RESET", 0x1000000, wholeWord⟩,
    ⟨"STOP", 0x1400000, wholeWord⟩,
    ⟨"SAVE", 0x1800000, wholeWord⟩,
    ⟨"RESTORE", 0x1C00000, wholeWord⟩ ]

/-- The sixty rows in the order of opcode_table.json. By the number of 1 bits in the mask that order does not fall
throughout (the RTC rows and the rows of format `E` come late), but of the rows that fit one word it lists the more
specific before the less specific, which is all that reading the first fitting row needs (R84). -/
def opcodeTable : List OpcodeRow := timebaseRows ++ isaRows ++ blockRows ++ catchAllRows ++ hostRows

/-- Whether a word fits a row (R84). -/
def fitsRow (w : EventWord) (r : OpcodeRow) : Bool := (w &&& r.mask) == r.bits

/-- The mnemonic of the first row, in table order, that a word fits (R84). -/
def firstFit (w : EventWord) : Option String := (opcodeTable.find? (fitsRow w)).map OpcodeRow.mnemonic

end Sys2Proof
end

