-- ==== Sys2Proof/Machine/Operands.lean ====
section
/-! DEFINITION. The fields computed from a bus event (R83) and the lane-mask test (R56). -/

namespace Sys2Proof.Machine

open Sys2Proof

/-! ### Byte lanes -/

/-- `LANE_POLICY` of this machine: the spec's decision D7 (log 1, DESIGN CHOICE). -/
def lanePolicy : LanePolicy := .strict

/-- `LaneOk(be)` under a given policy (R56). -/
def laneOkUnder (p : LanePolicy) (be : Lanes) : Bool :=
  match p with
  | .strict => be == 0xFF
  | .ignore => true

/-- `LaneOk(be)` (R56). -/
def laneOk (be : Lanes) : Bool := laneOkUnder lanePolicy be

/-- `Mask(be)`: byte i is `0xFF` when `be[i] = 1` and `0x00` otherwise (R12, R52). -/
def laneMask (be : Lanes) : Word :=
  let byte := fun i => if be.getLsbD i then 0xFF#8 else 0x00#8
  byte 7 ++ byte 6 ++ byte 5 ++ byte 4 ++ byte 3 ++ byte 2 ++ byte 1 ++ byte 0

/-- The data bits lane `i` carries, `[8i+7 : 8i]` (R52). -/
def laneByte (i : Fin 8) (v : Word) : BitVec 8 := v.extractLsb' (8 * i.val) 8

/-- The byte offset lane `i` of the word at `a` answers to, under a given `LANE_BYTE_ORDER` (R55). -/
def laneAddressUnder (order : LaneByteOrder) (a : Offset) (i : Fin 8) : Offset :=
  match order with
  | .laneZeroLowest => a + BitVec.ofNat 22 i.val
  | .laneZeroHighest => a + BitVec.ofNat 22 (7 - i.val)

/-- The byte offset lane `i` of the word at `a` answers to (R55). -/
def laneAddress (a : Offset) (i : Fin 8) : Offset := laneAddressUnder Config.laneByteOrder a i

/-! ### Addresses -/

/-- `AbsAddr(A) = BASE + A` (R63); it appears only in diagnostic records. -/
def absAddr (a : Offset) : Word := Config.base + a.setWidth 64

/-- `boff = A - First(blk)` (R83). -/
def blockOffset (b : Block) (a : Offset) : Offset := a - firstOffset b

/-- `L = A >> 3`, the 64-bit-lane offset (R51, R83). -/
def laneIndex (a : Offset) : BitVec 19 := a.extractLsb' 3 19

/-- `widx = boff >> 3`, the lane index inside the block (R83). -/
def wordIndex (b : Block) (a : Offset) : BitVec 19 := laneIndex (blockOffset b a)

/-- `idx = boff >> 5` in the RTC block: bits 14:5 of `boff` (R201). -/
def rtcIndex (a : Offset) : RtcIndex := (blockOffset .rtc a).extractLsb' 5 10

/-- `d8 = d[7:0]`, all that an RTC write forwards (R83, R205). -/
def rtcDatum (d : Word) : RtcDatum := d.extractLsb' 0 8

end Sys2Proof.Machine
end

