-- ==== Sys2Proof/Machine/Ops.lean ====
section
/-! DEFINITION. The named operations the meanings are made of: the output ports, the access to a register, the
diagnostic no-op, the calls on the RTC port, the ticks, the host operations, and taking the next event of the timeline.

TBC takes no exception and returns from none (R220, R240, R241): what stands in that place is the status latch of
`compareEvaluate` and the diagnostic no-op below. -/

namespace Sys2Proof.Machine

open Sys2Proof

/-! ### Ports -/

/-- Drives `v` on the read-data output (R50); it stays there until the next bus read (log 20, DESIGN CHOICE). -/
def driveData (v : Word) (s : State) : State := { s with rdata := some v }

/-- `Diag(block, dir, absaddr, data, be)`: appends one record and changes nothing else (R13, R224). -/
def logRecord (b : Block) (dir : Direction) (a : Offset) (data : Word) (be : Lanes) (s : State) : State :=
  { s with diag := s.diag ++ [⟨b, dir, absAddr a, data, be⟩] }

/-- Replaces the sixteen elements. -/
def withRegs (r : Image) (s : State) : State := { s with regs := r }

/-! ### Bus accesses -/

/-- A bus event acts only while the device runs; a stopped one is not accessed (R211, D14). -/
def busAccess (act : State → State) (s : State) : Result :=
  if s.running then .next (act s) else .refused .busAccessWhileStopped

/-- The diagnostic no-op of a read: one record whose data is the 0 returned, and 0 on the bus (R221). -/
def noOpRead (b : Block) (a : Offset) (be : Lanes) (s : State) : State :=
  driveData 0 (logRecord b .read a 0 be s)

/-- The diagnostic no-op of a write: one record, and the data is discarded (R221). -/
def noOpWrite (b : Block) (a : Offset) (be : Lanes) (d : Word) (s : State) : State :=
  logRecord b .write a d be s

/-- A read of a recognized register that holds `v` (R58, R142, R160). -/
def readRegister (p : LanePolicy) (b : Block) (a : Offset) (be : Lanes) (v : Word) (s : State) : State :=
  if laneOkUnder p be then driveData v s else noOpRead b a be s

/-- A write of a recognized register, where `r` is what the sixteen elements become if it takes effect
(R58, R142, R160). -/
def writeRegister (p : LanePolicy) (b : Block) (a : Offset) (be : Lanes) (d : Word) (r : Image) (s : State) : State :=
  if laneOkUnder p be then withRegs r s else noOpWrite b a be d s

/-- A read of a hole drives a free value, a new one each time (R61, R190). -/
def readHole (s : State) : State := driveData (Config.draw s.draws) { s with draws := s.draws + 1 }

/-- `rdata <- RtcRead(idx)`: one call, and its whole answer on the bus (R203, R204). -/
def callRtcRead (idx : RtcIndex) (s : State) : State :=
  driveData (Config.rtcAnswer s.rtcCalls idx) { s with rtcCalls := s.rtcCalls ++ [.read idx] }

/-- `RtcWrite(idx, d8)`: one call (R203, R205). -/
def callRtcWrite (idx : RtcIndex) (d8 : RtcDatum) (s : State) : State :=
  { s with rtcCalls := s.rtcCalls ++ [.write idx d8] }

/-! ### Ticks and host operations -/

/-- A tick happens only while the sources are armed; one that comes when they are not does not happen
(R104, R210; log 9, DEDUCED). -/
def tickIfRunning (tick : Image → Image) (s : State) : State :=
  if s.running then withRegs (tick s.regs) s else s

/-- RESET on the state: every element zero and both sources armed; the ports keep what they have shown (R261, R262). -/
def resetDevice (s : State) : State := { s with regs := Image.zero, running := true }

/-- STOP on the state (R210). -/
def stopDevice (s : State) : State := { s with running := false }

/-- SAVE on the state: the image goes out, nothing else changes (R212). -/
def saveImage (s : State) : State := { s with saved := some s.regs }

/-! ### The views TBC always presents -/

/-- The 32-bit UST view (R252). -/
def ustView (s : State) : Half := s.regs.ust

/-- The 32-bit MSC view (R252). -/
def mscView (s : State) : Half := s.regs.msc

/-- The status word the interrupt consumer sees (R232). -/
def consumerStatus (s : State) : Word := s.regs.intStatus

/-- The mask word the interrupt consumer sees (R232). -/
def consumerMask (s : State) : Word := s.regs.intMask

/-! ### The timeline -/

/-- The next event of the timeline and the state that has taken it off; none where nothing is listed (R70). -/
def takeEvent (s : State) : Option (Event × State) :=
  match s.timeline with
  | [] => none
  | e :: rest => some (e, { s with timeline := rest })

/-- The timeline with an event put before all others. -/
def presentEvent (e : Event) (s : State) : State := { s with timeline := e :: s.timeline }

/-- The refusal of a word that is not an event (R84). -/
def refusalOf : DecodeError → Refusal
  | .offsetNotAligned => .offsetNotAligned
  | .zeroFieldNotZero => .zeroFieldNotZero

end Sys2Proof.Machine
end

