-- ==== Sys2Proof/Machine/HostOps.lean ====
section
/-! DEFINITION. The host operations RESET (R261), STOP (R210), SAVE (R212) and RESTORE (R213). -/

namespace Sys2Proof.Machine

open Sys2Proof

/-- `RESET` (R261). -/
def execReset (s : State) : Result :=
  .next (resetDevice s)

/-- `STOP` (R210). -/
def execStop (s : State) : Result :=
  .next (stopDevice s)

/-- `SAVE` (R212). -/
def execSave (s : State) : Result :=
  .next (saveImage s)

/-- `RESTORE` (R213): all sixteen elements replaced, `RUNNING` unchanged, no check of the image and no compare
evaluation (R214, D15; log 19, DESIGN CHOICE). -/
def execRestore (image : Image) (s : State) : Result :=
  .next (withRegs image s)

end Sys2Proof.Machine
end

