-- ==== Sys2Proof/Machine/Isa.lean ====
section
/-! DEFINITION. Bus access to the ISA bridge block (R150 to R159): four recognized registers, of which three can be
written. -/

namespace Sys2Proof.Machine

open Sys2Proof

/-! ### Reads -/

/-- `RD.RINGBASE` (R150). -/
def execRdRingbase (be : Lanes) (s : State) : Result :=
  busAccess (readRegister lanePolicy .isa (isaAddress .ringbase) be s.regs.ringbase) s

/-- `RD.FLASH_NIC_CTRL` (R151). -/
def execRdFlashNicCtrl (be : Lanes) (s : State) : Result :=
  busAccess (readRegister lanePolicy .isa (isaAddress .flashNicCtrl) be s.regs.flashNicCtrl) s

/-- `RD.INT_STATUS` (R152). -/
def execRdIntStatus (be : Lanes) (s : State) : Result :=
  busAccess (readRegister lanePolicy .isa (isaAddress .intStatus) be s.regs.intStatus) s

/-- `RD.INT_MASK` (R153). -/
def execRdIntMask (be : Lanes) (s : State) : Result :=
  busAccess (readRegister lanePolicy .isa (isaAddress .intMask) be s.regs.intMask) s

/-- `RD.ISA_UNK` (R154): anomaly (a), whatever `be` is. -/
def execRdIsaUnk (a : Offset) (be : Lanes) (s : State) : Result :=
  busAccess (noOpRead .isa a be) s

/-! ### Writes -/

/-- `WR.RINGBASE` (R155). -/
def execWrRingbase (be : Lanes) (d : Word) (s : State) : Result :=
  busAccess (writeRegister lanePolicy .isa (isaAddress .ringbase) be d { s.regs with ringbase := d }) s

/-- `WR.FLASH_NIC_CTRL` (R156). -/
def execWrFlashNicCtrl (be : Lanes) (d : Word) (s : State) : Result :=
  busAccess (writeRegister lanePolicy .isa (isaAddress .flashNicCtrl) be d { s.regs with flashNicCtrl := d }) s

/-- `WR.INT_STATUS` (R157): accepted and ignored. -/
def execWrIntStatus (be : Lanes) (d : Word) (s : State) : Result :=
  busAccess (writeRegister lanePolicy .isa (isaAddress .intStatus) be d s.regs) s

/-- `WR.INT_MASK` (R158). -/
def execWrIntMask (be : Lanes) (d : Word) (s : State) : Result :=
  busAccess (writeRegister lanePolicy .isa (isaAddress .intMask) be d { s.regs with intMask := d }) s

/-- `WR.ISA_UNK` (R159): anomaly (a), whatever `be` is. -/
def execWrIsaUnk (a : Offset) (be : Lanes) (d : Word) (s : State) : Result :=
  busAccess (noOpWrite .isa a be d) s

end Sys2Proof.Machine
end

