-- ==== Sys2Proof/Machine/Rtc.lean ====
section
/-! DEFINITION. The RTC bridge (R204, R205): every access of the range is one call on the RTC port, whatever `be` is
(D8; log 18, DESIGN CHOICE). -/

namespace Sys2Proof.Machine

open Sys2Proof

/-- `RD.RTC` (R204). -/
def execRdRtc (a : Offset) (_be : Lanes) (s : State) : Result :=
  busAccess (callRtcRead (rtcIndex a)) s

/-- `WR.RTC` (R205). -/
def execWrRtc (a : Offset) (_be : Lanes) (d : Word) (s : State) : Result :=
  busAccess (callRtcWrite (rtcIndex a) (rtcDatum d)) s

end Sys2Proof.Machine
end

