-- ==== Sys2Proof/Machine/Stubs.lean ====
section
/-! DEFINITION. Bus access to the nine stub blocks (R172 to R189) and to the holes (R190, R191). No stub holds state: a
read gives 0 and a write is discarded, each with one diagnostic record. -/

namespace Sys2Proof.Machine

open Sys2Proof

/-- `RD.PCI` (R172). -/
def execRdPci (a : Offset) (be : Lanes) (s : State) : Result :=
  busAccess (noOpRead .pci a be) s

/-- `WR.PCI` (R173). -/
def execWrPci (a : Offset) (be : Lanes) (d : Word) (s : State) : Result :=
  busAccess (noOpWrite .pci a be d) s

/-- `RD.VIN1` (R174). -/
def execRdVin1 (a : Offset) (be : Lanes) (s : State) : Result :=
  busAccess (noOpRead .vin1 a be) s

/-- `WR.VIN1` (R175). -/
def execWrVin1 (a : Offset) (be : Lanes) (d : Word) (s : State) : Result :=
  busAccess (noOpWrite .vin1 a be d) s

/-- `RD.VIN2` (R176). -/
def execRdVin2 (a : Offset) (be : Lanes) (s : State) : Result :=
  busAccess (noOpRead .vin2 a be) s

/-- `WR.VIN2` (R177). -/
def execWrVin2 (a : Offset) (be : Lanes) (d : Word) (s : State) : Result :=
  busAccess (noOpWrite .vin2 a be d) s

/-- `RD.VOUT` (R178). -/
def execRdVout (a : Offset) (be : Lanes) (s : State) : Result :=
  busAccess (noOpRead .vout a be) s

/-- `WR.VOUT` (R179). -/
def execWrVout (a : Offset) (be : Lanes) (d : Word) (s : State) : Result :=
  busAccess (noOpWrite .vout a be d) s

/-- `RD.ENET` (R180). -/
def execRdEnet (a : Offset) (be : Lanes) (s : State) : Result :=
  busAccess (noOpRead .enet a be) s

/-- `WR.ENET` (R181). -/
def execWrEnet (a : Offset) (be : Lanes) (d : Word) (s : State) : Result :=
  busAccess (noOpWrite .enet a be d) s

/-- `RD.AUDIO` (R182). -/
def execRdAudio (a : Offset) (be : Lanes) (s : State) : Result :=
  busAccess (noOpRead .audio a be) s

/-- `WR.AUDIO` (R183). -/
def execWrAudio (a : Offset) (be : Lanes) (d : Word) (s : State) : Result :=
  busAccess (noOpWrite .audio a be d) s

/-- `RD.KBDMS` (R184). -/
def execRdKbdms (a : Offset) (be : Lanes) (s : State) : Result :=
  busAccess (noOpRead .kbdms a be) s

/-- `WR.KBDMS` (R185). -/
def execWrKbdms (a : Offset) (be : Lanes) (d : Word) (s : State) : Result :=
  busAccess (noOpWrite .kbdms a be d) s

/-- `RD.I2C` (R186). -/
def execRdI2c (a : Offset) (be : Lanes) (s : State) : Result :=
  busAccess (noOpRead .i2c a be) s

/-- `WR.I2C` (R187). -/
def execWrI2c (a : Offset) (be : Lanes) (d : Word) (s : State) : Result :=
  busAccess (noOpWrite .i2c a be d) s

/-- `RD.ISA_EXT` (R188). -/
def execRdIsaExt (a : Offset) (be : Lanes) (s : State) : Result :=
  busAccess (noOpRead .isaExt a be) s

/-- `WR.ISA_EXT` (R189). -/
def execWrIsaExt (a : Offset) (be : Lanes) (d : Word) (s : State) : Result :=
  busAccess (noOpWrite .isaExt a be d) s

/-- `RD.UNMAPPED` (R190): a free value, no change of TBC's state and no record. -/
def execRdUnmapped (_a : Offset) (_be : Lanes) (s : State) : Result :=
  busAccess readHole s

/-- `WR.UNMAPPED` (R191): no handler is selected, nothing changes. -/
def execWrUnmapped (_a : Offset) (_be : Lanes) (_d : Word) (s : State) : Result :=
  busAccess id s

end Sys2Proof.Machine
end

