-- ==== Sys2Proof/Machine/Ticks.lean ====
section
/-! DEFINITION. The two ticks (R101, R102), and what happens when nothing is listed on the timeline. -/

namespace Sys2Proof.Machine

open Sys2Proof

/-- `FTICK` (R101). -/
def execFtick (s : State) : Result :=
  .next (tickIfRunning fastTick s)

/-- `STICK` (R102). -/
def execStick (s : State) : Result :=
  .next (tickIfRunning slowTick s)

/-- Which source ticks at the `n`-th step at which nothing but the two sources acts; both come again and again
(R104, R108; log 7, DESIGN CHOICE; log 22, DEDUCED). -/
def nextTick (n : Nat) : TickSource :=
  if Config.tickOrder n % 2 = 0 then .fast else .slow

/-- One step at which no bus or host event comes: while the sources are armed one of them ticks, and which one is a
free value (R73, R104, R108; log 7, DESIGN CHOICE); in a stopped device nothing happens (R210, R253). -/
def idleStep (s : State) : Result :=
  if s.running then
    match nextTick s.choices with
    | .fast => execFtick { s with choices := s.choices + 1 }
    | .slow => execStick { s with choices := s.choices + 1 }
  else .next s

end Sys2Proof.Machine
end

