-- ==== Sys2Proof/Machine/Timebase.lean ====
section
/-! DEFINITION. Bus access to the timebase block (R120 to R141): ten recognized registers, of which three can be
written. -/

namespace Sys2Proof.Machine

open Sys2Proof

/-! ### Reads -/

/-- `RD.UST_MSC` (R120). -/
def execRdUstMsc (be : Lanes) (s : State) : Result :=
  busAccess (readRegister lanePolicy .ustMsc (timebaseAddress .ustMsc) be s.regs.ustMsc) s

/-- `RD.COMPARE1` (R121). -/
def execRdCompare1 (be : Lanes) (s : State) : Result :=
  busAccess (readRegister lanePolicy .ustMsc (timebaseAddress .compare1) be s.regs.compare1) s

/-- `RD.COMPARE2` (R122). -/
def execRdCompare2 (be : Lanes) (s : State) : Result :=
  busAccess (readRegister lanePolicy .ustMsc (timebaseAddress .compare2) be s.regs.compare2) s

/-- `RD.COMPARE3` (R123). -/
def execRdCompare3 (be : Lanes) (s : State) : Result :=
  busAccess (readRegister lanePolicy .ustMsc (timebaseAddress .compare3) be s.regs.compare3) s

/-- `RD.AIN_MSC_UST` (R124). -/
def execRdAinMscUst (be : Lanes) (s : State) : Result :=
  busAccess (readRegister lanePolicy .ustMsc (timebaseAddress .ainMscUst) be s.regs.ainMscUst) s

/-- `RD.AOUT1_MSC_UST` (R125). -/
def execRdAout1MscUst (be : Lanes) (s : State) : Result :=
  busAccess (readRegister lanePolicy .ustMsc (timebaseAddress .aout1MscUst) be s.regs.aout1MscUst) s

/-- `RD.AOUT2_MSC_UST` (R126). -/
def execRdAout2MscUst (be : Lanes) (s : State) : Result :=
  busAccess (readRegister lanePolicy .ustMsc (timebaseAddress .aout2MscUst) be s.regs.aout2MscUst) s

/-- `RD.VIN1_MSC_UST` (R127). -/
def execRdVin1MscUst (be : Lanes) (s : State) : Result :=
  busAccess (readRegister lanePolicy .ustMsc (timebaseAddress .vin1MscUst) be s.regs.vin1MscUst) s

/-- `RD.VIN2_MSC_UST` (R128). -/
def execRdVin2MscUst (be : Lanes) (s : State) : Result :=
  busAccess (readRegister lanePolicy .ustMsc (timebaseAddress .vin2MscUst) be s.regs.vin2MscUst) s

/-- `RD.VOUT_MSC_UST` (R129). -/
def execRdVoutMscUst (be : Lanes) (s : State) : Result :=
  busAccess (readRegister lanePolicy .ustMsc (timebaseAddress .voutMscUst) be s.regs.voutMscUst) s

/-- `RD.UST_MSC_UNK` (R130): anomaly (a), whatever `be` is. -/
def execRdUstMscUnk (a : Offset) (be : Lanes) (s : State) : Result :=
  busAccess (noOpRead .ustMsc a be) s

/-! ### Writes -/

/-- `WR.UST_MSC` (R131): accepted and ignored. -/
def execWrUstMsc (be : Lanes) (d : Word) (s : State) : Result :=
  busAccess (writeRegister lanePolicy .ustMsc (timebaseAddress .ustMsc) be d s.regs) s

/-- `WR.COMPARE1` (R132). -/
def execWrCompare1 (be : Lanes) (d : Word) (s : State) : Result :=
  busAccess (writeRegister lanePolicy .ustMsc (timebaseAddress .compare1) be d { s.regs with compare1 := d }) s

/-- `WR.COMPARE2` (R133). -/
def execWrCompare2 (be : Lanes) (d : Word) (s : State) : Result :=
  busAccess (writeRegister lanePolicy .ustMsc (timebaseAddress .compare2) be d { s.regs with compare2 := d }) s

/-- `WR.COMPARE3` (R134). -/
def execWrCompare3 (be : Lanes) (d : Word) (s : State) : Result :=
  busAccess (writeRegister lanePolicy .ustMsc (timebaseAddress .compare3) be d { s.regs with compare3 := d }) s

/-- `WR.AIN_MSC_UST` (R135): accepted, logged and ignored, whatever `be` and `d` are. -/
def execWrAinMscUst (be : Lanes) (d : Word) (s : State) : Result :=
  busAccess (noOpWrite .ustMsc (timebaseAddress .ainMscUst) be d) s

/-- `WR.AOUT1_MSC_UST` (R136): accepted, logged and ignored, whatever `be` and `d` are. -/
def execWrAout1MscUst (be : Lanes) (d : Word) (s : State) : Result :=
  busAccess (noOpWrite .ustMsc (timebaseAddress .aout1MscUst) be d) s

/-- `WR.AOUT2_MSC_UST` (R137): accepted, logged and ignored, whatever `be` and `d` are. -/
def execWrAout2MscUst (be : Lanes) (d : Word) (s : State) : Result :=
  busAccess (noOpWrite .ustMsc (timebaseAddress .aout2MscUst) be d) s

/-- `WR.VIN1_MSC_UST` (R138): accepted, logged and ignored, whatever `be` and `d` are. -/
def execWrVin1MscUst (be : Lanes) (d : Word) (s : State) : Result :=
  busAccess (noOpWrite .ustMsc (timebaseAddress .vin1MscUst) be d) s

/-- `WR.VIN2_MSC_UST` (R139): accepted, logged and ignored, whatever `be` and `d` are. -/
def execWrVin2MscUst (be : Lanes) (d : Word) (s : State) : Result :=
  busAccess (noOpWrite .ustMsc (timebaseAddress .vin2MscUst) be d) s

/-- `WR.VOUT_MSC_UST` (R140): accepted, logged and ignored, whatever `be` and `d` are. -/
def execWrVoutMscUst (be : Lanes) (d : Word) (s : State) : Result :=
  busAccess (noOpWrite .ustMsc (timebaseAddress .voutMscUst) be d) s

/-- `WR.UST_MSC_UNK` (R141): anomaly (a), whatever `be` is. -/
def execWrUstMscUnk (a : Offset) (be : Lanes) (d : Word) (s : State) : Result :=
  busAccess (noOpWrite .ustMsc a be d) s

end Sys2Proof.Machine
end

