-- ==== Sys2Proof/Machine/Dispatch.lean ====
section
/-! DEFINITION. One arm per event: the rule of R89's list that gives its meaning. -/

namespace Sys2Proof.Machine

open Sys2Proof

def exec (i : Instr) (s : State) : Host.Outcome State Fault Refusal :=
  match i with
  | .rdUstMsc be => Sys2Proof.Machine.execRdUstMsc be s
  | .rdCompare1 be => Sys2Proof.Machine.execRdCompare1 be s
  | .rdCompare2 be => Sys2Proof.Machine.execRdCompare2 be s
  | .rdCompare3 be => Sys2Proof.Machine.execRdCompare3 be s
  | .rdAinMscUst be => Sys2Proof.Machine.execRdAinMscUst be s
  | .rdAout1MscUst be => Sys2Proof.Machine.execRdAout1MscUst be s
  | .rdAout2MscUst be => Sys2Proof.Machine.execRdAout2MscUst be s
  | .rdVin1MscUst be => Sys2Proof.Machine.execRdVin1MscUst be s
  | .rdVin2MscUst be => Sys2Proof.Machine.execRdVin2MscUst be s
  | .rdVoutMscUst be => Sys2Proof.Machine.execRdVoutMscUst be s
  | .rdUstMscUnk a be => Sys2Proof.Machine.execRdUstMscUnk a be s
  | .wrUstMsc be d => Sys2Proof.Machine.execWrUstMsc be d s
  | .wrCompare1 be d => Sys2Proof.Machine.execWrCompare1 be d s
  | .wrCompare2 be d => Sys2Proof.Machine.execWrCompare2 be d s
  | .wrCompare3 be d => Sys2Proof.Machine.execWrCompare3 be d s
  | .wrAinMscUst be d => Sys2Proof.Machine.execWrAinMscUst be d s
  | .wrAout1MscUst be d => Sys2Proof.Machine.execWrAout1MscUst be d s
  | .wrAout2MscUst be d => Sys2Proof.Machine.execWrAout2MscUst be d s
  | .wrVin1MscUst be d => Sys2Proof.Machine.execWrVin1MscUst be d s
  | .wrVin2MscUst be d => Sys2Proof.Machine.execWrVin2MscUst be d s
  | .wrVoutMscUst be d => Sys2Proof.Machine.execWrVoutMscUst be d s
  | .wrUstMscUnk a be d => Sys2Proof.Machine.execWrUstMscUnk a be d s
  | .rdRingbase be => Sys2Proof.Machine.execRdRingbase be s
  | .rdFlashNicCtrl be => Sys2Proof.Machine.execRdFlashNicCtrl be s
  | .rdIntStatus be => Sys2Proof.Machine.execRdIntStatus be s
  | .rdIntMask be => Sys2Proof.Machine.execRdIntMask be s
  | .rdIsaUnk a be => Sys2Proof.Machine.execRdIsaUnk a be s
  | .wrRingbase be d => Sys2Proof.Machine.execWrRingbase be d s
  | .wrFlashNicCtrl be d => Sys2Proof.Machine.execWrFlashNicCtrl be d s
  | .wrIntStatus be d => Sys2Proof.Machine.execWrIntStatus be d s
  | .wrIntMask be d => Sys2Proof.Machine.execWrIntMask be d s
  | .wrIsaUnk a be d => Sys2Proof.Machine.execWrIsaUnk a be d s
  | .rdPci a be => Sys2Proof.Machine.execRdPci a be s
  | .wrPci a be d => Sys2Proof.Machine.execWrPci a be d s
  | .rdVin1 a be => Sys2Proof.Machine.execRdVin1 a be s
  | .wrVin1 a be d => Sys2Proof.Machine.execWrVin1 a be d s
  | .rdVin2 a be => Sys2Proof.Machine.execRdVin2 a be s
  | .wrVin2 a be d => Sys2Proof.Machine.execWrVin2 a be d s
  | .rdVout a be => Sys2Proof.Machine.execRdVout a be s
  | .wrVout a be d => Sys2Proof.Machine.execWrVout a be d s
  | .rdEnet a be => Sys2Proof.Machine.execRdEnet a be s
  | .wrEnet a be d => Sys2Proof.Machine.execWrEnet a be d s
  | .rdAudio a be => Sys2Proof.Machine.execRdAudio a be s
  | .wrAudio a be d => Sys2Proof.Machine.execWrAudio a be d s
  | .rdKbdms a be => Sys2Proof.Machine.execRdKbdms a be s
  | .wrKbdms a be d => Sys2Proof.Machine.execWrKbdms a be d s
  | .rdI2c a be => Sys2Proof.Machine.execRdI2c a be s
  | .wrI2c a be d => Sys2Proof.Machine.execWrI2c a be d s
  | .rdIsaExt a be => Sys2Proof.Machine.execRdIsaExt a be s
  | .wrIsaExt a be d => Sys2Proof.Machine.execWrIsaExt a be d s
  | .rdUnmapped a be => Sys2Proof.Machine.execRdUnmapped a be s
  | .wrUnmapped a be d => Sys2Proof.Machine.execWrUnmapped a be d s
  | .rdRtc a be => Sys2Proof.Machine.execRdRtc a be s
  | .wrRtc a be d => Sys2Proof.Machine.execWrRtc a be d s
  | .ftick => Sys2Proof.Machine.execFtick s
  | .stick => Sys2Proof.Machine.execStick s
  | .reset => Sys2Proof.Machine.execReset s
  | .stop => Sys2Proof.Machine.execStop s
  | .save => Sys2Proof.Machine.execSave s
  | .restore image => Sys2Proof.Machine.execRestore image s

end Sys2Proof.Machine
end

