-- ==== Sys2Proof/Machine/Step.lean ====
section
/-! DEFINITION. One step: take the next event of the timeline, decode it and execute it; where nothing is listed, the
tick sources act by themselves. -/

namespace Sys2Proof.Machine

open Sys2Proof

/-- One event (R9, R70, R71). -/
def step (s : State) : Host.Outcome State Fault Refusal :=
  match takeEvent s with
  | none => idleStep s
  | some (e, s') =>
    match decode e with
    | .event i => exec i s'
    | .rejected why => .refused (refusalOf why)

/-- The event whose word is `w`, with every operand beside it zero, put first on the timeline (log 12, DESIGN CHOICE). -/
def State.withFetchWord (s : State) (nbits w : Nat) : State :=
  presentEvent (bareEvent (BitVec.ofNat 25 (w % 2 ^ nbits))) s

end Sys2Proof.Machine
end

