-- ==== Sys2Proof/Machine/Bus.lean ====
section
/-! DEFINITION. The spec's second description of a bus access: the two top-level functions of R53 and the handler frame
of each block (R142, R160, R170, R204, R205), dispatching on the address instead of on the decoded event. That the
meanings of the events agree with it is an obligation. -/

namespace Sys2Proof.Machine

open Sys2Proof

/-- The value a timebase register holds (R142, R143). -/
def timebaseValue (r : Image) : TimebaseReg → Word
  | .ustMsc => r.ustMsc
  | .compare1 => r.compare1
  | .compare2 => r.compare2
  | .compare3 => r.compare3
  | .ainMscUst => r.ainMscUst
  | .aout1MscUst => r.aout1MscUst
  | .aout2MscUst => r.aout2MscUst
  | .vin1MscUst => r.vin1MscUst
  | .vin2MscUst => r.vin2MscUst
  | .voutMscUst => r.voutMscUst

/-- `TimebaseRead(boff, be)` (R142). -/
def timebaseRead (boff : Offset) (be : Lanes) (s : State) : State :=
  let noOp := driveData 0 (logRecord .ustMsc .read (0x330000 + boff) 0 be s)
  match timebaseRegAt boff with
  | none => noOp
  | some r => if laneOk be then driveData (timebaseValue s.regs r) s else noOp

/-- `TimebaseWrite(boff, be, d)` (R142). -/
def timebaseWrite (boff : Offset) (be : Lanes) (d : Word) (s : State) : State :=
  let logged := logRecord .ustMsc .write (0x330000 + boff) d be s
  match timebaseRegAt boff with
  | none => logged
  | some r =>
    if laneOk be then
      match r with
      | .compare1 => withRegs { s.regs with compare1 := d } s
      | .compare2 => withRegs { s.regs with compare2 := d } s
      | .compare3 => withRegs { s.regs with compare3 := d } s
      | .ustMsc => s
      | .ainMscUst | .aout1MscUst | .aout2MscUst | .vin1MscUst | .vin2MscUst | .voutMscUst => logged
    else logged

/-- The value an ISA register holds (R160). -/
def isaValue (r : Image) : IsaReg → Word
  | .ringbase => r.ringbase
  | .flashNicCtrl => r.flashNicCtrl
  | .intStatus => r.intStatus
  | .intMask => r.intMask

/-- `IsaRead(boff, be)` (R160). -/
def isaRead (boff : Offset) (be : Lanes) (s : State) : State :=
  let noOp := driveData 0 (logRecord .isa .read (0x300000 + boff) 0 be s)
  match isaRegAt boff with
  | none => noOp
  | some r => if laneOk be then driveData (isaValue s.regs r) s else noOp

/-- `IsaWrite(boff, be, d)` (R160). -/
def isaWrite (boff : Offset) (be : Lanes) (d : Word) (s : State) : State :=
  let logged := logRecord .isa .write (0x300000 + boff) d be s
  match isaRegAt boff with
  | none => logged
  | some r =>
    if laneOk be then
      match r with
      | .ringbase => withRegs { s.regs with ringbase := d } s
      | .flashNicCtrl => withRegs { s.regs with flashNicCtrl := d } s
      | .intStatus => s
      | .intMask => withRegs { s.regs with intMask := d } s
    else logged

/-- `StubRead(blk, boff, be)` (R170). -/
def stubRead (b : Block) (boff : Offset) (be : Lanes) (s : State) : State :=
  driveData 0 (logRecord b .read (firstOffset b + boff) 0 be s)

/-- `StubWrite(blk, boff, be, d)` (R170). -/
def stubWrite (b : Block) (boff : Offset) (be : Lanes) (d : Word) (s : State) : State :=
  logRecord b .write (firstOffset b + boff) d be s

/-- `RtcBridgeRead(boff, be)` (R204). -/
def rtcBridgeRead (boff : Offset) (s : State) : State :=
  callRtcRead ((boff >>> 5).setWidth 10) s

/-- `RtcBridgeWrite(boff, be, d)` (R205). -/
def rtcBridgeWrite (boff : Offset) (d : Word) (s : State) : State :=
  callRtcWrite ((boff >>> 5).setWidth 10) (d.setWidth 8) s

/-- `BusRead(A, be)` (R53); the value read is `rdata` of the state it gives. -/
def busRead (a : Offset) (be : Lanes) (s : State) : Result :=
  busAccess (fun s =>
    match blockAt a with
    | none => readHole s
    | some .ustMsc => timebaseRead (blockOffset .ustMsc a) be s
    | some .isa => isaRead (blockOffset .isa a) be s
    | some .rtc => rtcBridgeRead (blockOffset .rtc a) s
    | some b => stubRead b (blockOffset b a) be s) s

/-- `BusWrite(A, be, d)` (R53). -/
def busWrite (a : Offset) (be : Lanes) (d : Word) (s : State) : Result :=
  busAccess (fun s =>
    match blockAt a with
    | none => s
    | some .ustMsc => timebaseWrite (blockOffset .ustMsc a) be d s
    | some .isa => isaWrite (blockOffset .isa a) be d s
    | some .rtc => rtcBridgeWrite (blockOffset .rtc a) d s
    | some b => stubWrite b (blockOffset b a) be d s) s

end Sys2Proof.Machine
end

