-- ==== Sys2Proof/Machine/Timed.lean ====
section
/-! DEFINITION. The timed refinement of R284: the same machine with the time to the next tick of each source, on one
time base. It removes interleavings from the untimed machine and adds none; `step` does not use it (R108, R283). -/

namespace Sys2Proof.Machine

open Sys2Proof

/-- `P_FAST` in nanoseconds (R8). -/
def fastPeriod : Nat := 960

/-- `P_SLOW` in nanoseconds (R8). -/
def slowPeriod : Nat := 1000000

/-- The state with the two times of R284. -/
structure TimedState where
  /-- The untimed state. -/
  core : State
  /-- Nanoseconds until the next tick of the fast source. -/
  nextFast : Nat
  /-- Nanoseconds until the next tick of the slow source. -/
  nextSlow : Nat
  /-- Nanoseconds since the latest RESET, counted while the device runs. -/
  elapsed : Nat
  /-- Coincidences met so far: the MODEL's own counter (log 8, DESIGN CHOICE). -/
  coincidences : Nat
  deriving DecidableEq, Repr

/-- Both sources armed with one whole period to go (R262, R284, D12; log 21, DESIGN CHOICE). -/
def armSources (core : State) (coincidences : Nat) : TimedState :=
  { core, nextFast := fastPeriod, nextSlow := slowPeriod, elapsed := 0, coincidences }

/-- The timed state right after RESET. -/
def TimedState.reset : TimedState := armSources State.reset 0

/-- Lets `d` nanoseconds pass, or as many of them as no tick falls due in; none pass for a stopped device (log 21,
DESIGN CHOICE). -/
def timedWait (d : Nat) (t : TimedState) : TimedState :=
  let gone := min d (min t.nextFast t.nextSlow)
  if t.core.running then
    { t with nextFast := t.nextFast - gone, nextSlow := t.nextSlow - gone, elapsed := t.elapsed + gone }
  else t

/-- Which source ticks next: the one due sooner; at a coincidence, the one `order` puts first (R285). -/
def dueSource (order : TickSource) (t : TimedState) : TickSource :=
  if t.nextFast < t.nextSlow then .fast
  else if t.nextSlow < t.nextFast then .slow
  else order

/-- The fast source ticks at its due time. -/
def timedFast (t : TimedState) : Host.Outcome TimedState Fault Refusal :=
  match execFtick t.core with
  | .next c => .next { t with core := c, nextFast := fastPeriod }
  | .fault f => .fault f
  | .refused r => .refused r

/-- The slow source ticks at its due time. -/
def timedSlow (t : TimedState) : Host.Outcome TimedState Fault Refusal :=
  match execStick t.core with
  | .next c => .next { t with core := c, nextSlow := slowPeriod }
  | .fault f => .fault f
  | .refused r => .refused r

/-- Time passes to the next due tick, which then happens; `order` settles a coincidence (R284, R285). -/
def timedTickUnder (order : TickSource) (t : TimedState) : Host.Outcome TimedState Fault Refusal :=
  if t.core.running then
    let due := timedWait (min t.nextFast t.nextSlow) t
    let due := { due with coincidences := if t.nextFast = t.nextSlow then t.coincidences + 1 else t.coincidences }
    match dueSource order t with
    | .fast => timedFast due
    | .slow => timedSlow due
  else .next t

/-- The next tick, with coincidences settled by the open `COINCIDENT_ORDER` (R285; log 8, DESIGN CHOICE). -/
def timedTick (t : TimedState) : Host.Outcome TimedState Fault Refusal :=
  timedTickUnder (Config.coincidentFirst t.coincidences) t

/-- A bus or host event at the present instant: it takes no time (R286), and RESET arms both sources anew (R262). Ticks
come from `timedTick` alone, so presenting one here does nothing. -/
def timedEvent (i : Instr) (t : TimedState) : Host.Outcome TimedState Fault Refusal :=
  match i with
  | .ftick => .next t
  | .stick => .next t
  | i =>
    match exec i t.core with
    | .next c => .next (if i = .reset then armSources c t.coincidences else { t with core := c })
    | .fault f => .fault f
    | .refused r => .refused r

/-- `n` ticks in time order, coincidences settled by `order`. -/
def timedTicksUnder (order : TickSource) : Nat → TimedState → Host.Outcome TimedState Fault Refusal
  | 0, t => .next t
  | n + 1, t =>
    match timedTickUnder order t with
    | .next t' => timedTicksUnder order n t'
    | .fault f => .fault f
    | .refused r => .refused r

end Sys2Proof.Machine
end

