-- ==== Sys2Proof/Safety.lean ====
section
/-! DEFINITION. The terms the statements use: the invariants of a run, the classes of events, a run of a list of events,
and states compared up to what nothing reads. A safe run of TBC is one in which every event is answered by a next state
(R220) and these invariants hold. -/

namespace Sys2Proof.Machine

open Sys2Proof

/-! ### Invariants -/

/-- The composite invariant of R27, on an image or on the registers. -/
def Coherent (r : Image) : Prop := r.ustMsc = compose r.ust r.msc

/-- Whether a presented event is a RESTORE (R80). -/
def presentsRestore (e : Event) : Bool := kindOf (kindField e.word) == .restore

/-- The registers are coherent and so is the image of every RESTORE still to come. -/
def CompositeInv (s : State) : Prop :=
  Coherent s.regs ∧ ∀ e ∈ s.timeline, presentsRestore e = true → Coherent e.image

/-- All six snapshots are zero (R30). -/
def SnapshotsZero (r : Image) : Prop :=
  r.ainMscUst = 0 ∧ r.aout1MscUst = 0 ∧ r.aout2MscUst = 0 ∧ r.vin1MscUst = 0 ∧ r.vin2MscUst = 0 ∧ r.voutMscUst = 0

/-- No bit of the status word other than the three compare bits is set (R34). -/
def OnlyCompareBits (r : Image) : Prop :=
  ∀ k, k ≠ c1Bit → k ≠ c2Bit → k ≠ c3Bit → r.intStatus.getLsbD k = false

/-- What R30 and R34 say of every state reached from RESET without RESTORE, with no RESTORE still to come. -/
def NoRestoreInv (s : State) : Prop :=
  SnapshotsZero s.regs ∧ OnlyCompareBits s.regs ∧ ∀ e ∈ s.timeline, presentsRestore e = false

/-- Every bit set in `v` is set in `w`. -/
def BitsWithin (v w : Word) : Prop := ∀ k, v.getLsbD k = true → w.getLsbD k = true

/-- What R284 says of a timed state between two of its events, with `f` and `s` the ticks there have been of each
source: a counter is the number of its ticks modulo 2^32, and the next tick of its source falls due one whole period
after the latest one. -/
def TimedInv (t : TimedState) : Prop :=
  t.nextFast ≤ 960 ∧ t.nextSlow ≤ 1000000 ∧
  (∃ f, t.core.regs.ust = BitVec.ofNat 32 f ∧ t.elapsed + t.nextFast = 960 * (f + 1)) ∧
  (∃ s, t.core.regs.msc = BitVec.ofNat 32 s ∧ t.elapsed + t.nextSlow = 1000000 * (s + 1))

/-! ### Classes of events -/

/-- The bus events: every event but the ticks and the host operations (R80). -/
def isBusEvent : Instr → Bool
  | .ftick | .stick | .reset | .stop | .save | .restore _ => false
  | _ => true

/-- The bus reads, by the kind of the event's word (R80). -/
def isBusRead (i : Instr) : Bool := kindOf (kindField (encode i).word) == .busRead

/-- The two ticks. -/
def isTick : Instr → Bool
  | .ftick | .stick => true
  | _ => false

/-- The events R110 leaves out: RESET, STOP and RESTORE. -/
def interruptsCounting : Instr → Bool
  | .reset | .stop | .restore _ => true
  | _ => false

/-- The lane mask of an access to one of the fourteen recognized registers (R223); none for any other event. -/
def recognizedLanes : Instr → Option Lanes
  | .rdUstMsc be | .rdCompare1 be | .rdCompare2 be | .rdCompare3 be | .rdAinMscUst be | .rdAout1MscUst be
  | .rdAout2MscUst be | .rdVin1MscUst be | .rdVin2MscUst be | .rdVoutMscUst be
  | .rdRingbase be | .rdFlashNicCtrl be | .rdIntStatus be | .rdIntMask be => some be
  | .wrUstMsc be _ | .wrCompare1 be _ | .wrCompare2 be _ | .wrCompare3 be _ | .wrAinMscUst be _ | .wrAout1MscUst be _
  | .wrAout2MscUst be _ | .wrVin1MscUst be _ | .wrVin2MscUst be _ | .wrVoutMscUst be _
  | .wrRingbase be _ | .wrFlashNicCtrl be _ | .wrIntStatus be _ | .wrIntMask be _ => some be
  | _ => none

/-- Anomaly (a), an unrecognized offset: exactly the events R222 lists. -/
def anomalyA : Instr → Bool
  | .rdUstMscUnk _ _ | .wrUstMscUnk _ _ _ | .rdIsaUnk _ _ | .wrIsaUnk _ _ _
  | .rdPci _ _ | .wrPci _ _ _ | .rdVin1 _ _ | .wrVin1 _ _ _ | .rdVin2 _ _ | .wrVin2 _ _ _
  | .rdVout _ _ | .wrVout _ _ _ | .rdEnet _ _ | .wrEnet _ _ _ | .rdAudio _ _ | .wrAudio _ _ _
  | .rdKbdms _ _ | .wrKbdms _ _ _ | .rdI2c _ _ | .wrI2c _ _ _ | .rdIsaExt _ _ | .wrIsaExt _ _ _ => true
  | _ => false

/-- Anomaly (b), a recognized register with an unexpected lane mask (R223). -/
def anomalyB (i : Instr) : Bool :=
  match recognizedLanes i with
  | some be => !laneOk be
  | none => false

/-- The six snapshot writes, which are logged even when nothing is wrong (R135 to R140). -/
def writesSnapshot : Instr → Bool
  | .wrAinMscUst _ _ | .wrAout1MscUst _ _ | .wrAout2MscUst _ _ | .wrVin1MscUst _ _ | .wrVin2MscUst _ _
  | .wrVoutMscUst _ _ => true
  | _ => false

/-- The events that read `INT_MASK` or replace it: RD.INT_MASK, WR.INT_MASK, SAVE, RESET and RESTORE (R35). -/
def touchesMask : Instr → Bool
  | .rdIntMask _ | .wrIntMask _ _ | .save | .reset | .restore _ => true
  | _ => false

/-! ### Runs and comparisons -/

/-- The events of a list one after the other, stopping at the first that is not answered by a next state (R70). -/
def runEvents : List Instr → State → Result
  | [], s => .next s
  | i :: rest, s =>
    match exec i s with
    | .next t => runEvents rest t
    | .fault f => .fault f
    | .refused r => .refused r

/-- An execution without end: `σ 0`, `σ 1`, ... are the states it passes through (R70, R104). -/
def EndlessRun (σ : Nat → State) : Prop := ∀ n, step (σ n) = .next (σ (n + 1))

/-- The event of a tick source (R101, R102). -/
def tickEvent : TickSource → Instr
  | .fast => .ftick
  | .slow => .stick

/-- At step `n` of an execution the source ticks of itself, no event being listed. -/
def ticksAt (source : TickSource) (σ : Nat → State) (n : Nat) : Prop :=
  (σ n).timeline = [] ∧ (σ n).running = true ∧
  exec (tickEvent source) { σ n with choices := (σ n).choices + 1 } = .next (σ (n + 1))

/-- A change made to the state a result gives. -/
def mapNext (f : State → State) : Result → Result
  | .next s => .next (f s)
  | .fault e => .fault e
  | .refused r => .refused r

/-- The state with the diagnostic channel replaced. -/
def withDiag (records : List DiagRecord) (s : State) : State := { s with diag := records }

/-- The state with `INT_MASK` replaced. -/
def withMask (m : Word) (s : State) : State := withRegs { s.regs with intMask := m } s

end Sys2Proof.Machine
end

