-- ==== Sys2Proof/Certificates/Slice0/Obligations.lean ====
section
/-! DEFINITION. The statements for the provers. Each names the rules it rests on in OBLIGATIONS.json.

A result is written as the whole next state, so it also says what the model keeps of the ports: that no diagnostic
record is made where the rule calls no Diag (log 13), that the data output and the saved image keep their last value
between their own events (log 20), and that the model's own fields for input and free values stay. Those clauses are
the model's choice; the registers, RUNNING, the value read and the records required are the rules'. -/

open Sys2Proof Sys2Proof.Machine

/-- For each recognized register of the block, whatever the lane mask, the data and the image beside it: the word (kind
000, A) decodes to that register's read event, and in every running state the event answers the next state in
which, if LaneOk(be), rdata is the register and nothing else has changed, and otherwise rdata is 0 and one
diagnostic record (block, read, BASE+A, 0, be) has been appended. Covers RD.UST_MSC, RD.COMPARE1 to 3 and the six
snapshot reads. (R120, R121, R122, R123, R124, R125, R126, R127, R128, R129) -/
def Obligations.TimebaseRegisterReadResults : Prop :=
  ∀ (e : Event) (s : State), s.running = true →
    let answers := fun (w : EventWord) (i : Instr) (a v : Word) =>
      (e.word = w → decode e = .event i) ∧
      exec i s = .next
        (if laneOk e.be then { s with rdata := some v }
         else { s with rdata := some 0, diag := s.diag ++ [⟨.ustMsc, .read, Config.base + a, 0, e.be⟩] })
    answers 0x0330000 (.rdUstMsc e.be) 0x330000 s.regs.ustMsc ∧
    answers 0x0330008 (.rdCompare1 e.be) 0x330008 s.regs.compare1 ∧
    answers 0x0330010 (.rdCompare2 e.be) 0x330010 s.regs.compare2 ∧
    answers 0x0330018 (.rdCompare3 e.be) 0x330018 s.regs.compare3 ∧
    answers 0x0330020 (.rdAinMscUst e.be) 0x330020 s.regs.ainMscUst ∧
    answers 0x0330028 (.rdAout1MscUst e.be) 0x330028 s.regs.aout1MscUst ∧
    answers 0x0330030 (.rdAout2MscUst e.be) 0x330030 s.regs.aout2MscUst ∧
    answers 0x0330038 (.rdVin1MscUst e.be) 0x330038 s.regs.vin1MscUst ∧
    answers 0x0330040 (.rdVin2MscUst e.be) 0x330040 s.regs.vin2MscUst ∧
    answers 0x0330048 (.rdVoutMscUst e.be) 0x330048 s.regs.voutMscUst

/-- WR.COMPARE1, WR.COMPARE2 and WR.COMPARE3: each word decodes to its event; in every running state, if LaneOk(be) the
whole of d is stored in that compare register and nothing else changes (in particular INT_STATUS), and otherwise
nothing changes but one diagnostic record (UST_MSC, write, BASE+A, d, be). (R132, R133, R134) -/
def Obligations.CompareRegisterWriteResults : Prop :=
  ∀ (e : Event) (s : State), s.running = true →
    let answers := fun (w : EventWord) (i : Instr) (a : Word) (r : Image) =>
      (e.word = w → decode e = .event i) ∧
      exec i s = .next
        (if laneOk e.be then { s with regs := r }
         else { s with diag := s.diag ++ [⟨.ustMsc, .write, Config.base + a, e.data, e.be⟩] })
    answers 0x0730008 (.wrCompare1 e.be e.data) 0x330008 { s.regs with compare1 := e.data } ∧
    answers 0x0730010 (.wrCompare2 e.be e.data) 0x330010 { s.regs with compare2 := e.data } ∧
    answers 0x0730018 (.wrCompare3 e.be e.data) 0x330018 { s.regs with compare3 := e.data }

/-- WR.UST_MSC: its word decodes to it; in every running state, whatever d is, no register changes; with an unexpected
lane mask one diagnostic record is appended, and otherwise nothing at all changes. (R131) -/
def Obligations.CompositeWriteIsIgnored : Prop :=
  ∀ (e : Event) (s : State), s.running = true →
    let answers := fun (w : EventWord) (i : Instr) (a : Word) (r : Image) =>
      (e.word = w → decode e = .event i) ∧
      exec i s = .next
        (if laneOk e.be then { s with regs := r }
         else { s with diag := s.diag ++ [⟨.ustMsc, .write, Config.base + a, e.data, e.be⟩] })
    answers 0x0730000 (.wrUstMsc e.be e.data) 0x330000 s.regs

/-- The six snapshot writes: each word decodes to its event; in every running state, whatever be and d are, the answer
is the same state with one diagnostic record (UST_MSC, write, BASE+A, d, be) appended. (R135, R136, R137, R138,
R139, R140) -/
def Obligations.SnapshotWritesAreLoggedAndIgnored : Prop :=
  ∀ (e : Event) (s : State), s.running = true →
    let answers := fun (w : EventWord) (i : Instr) (a : Word) =>
      (e.word = w → decode e = .event i) ∧
      exec i s = .next { s with diag := s.diag ++ [⟨.ustMsc, .write, Config.base + a, e.data, e.be⟩] }
    answers 0x0730020 (.wrAinMscUst e.be e.data) 0x330020 ∧
    answers 0x0730028 (.wrAout1MscUst e.be e.data) 0x330028 ∧
    answers 0x0730030 (.wrAout2MscUst e.be e.data) 0x330030 ∧
    answers 0x0730038 (.wrVin1MscUst e.be e.data) 0x330038 ∧
    answers 0x0730040 (.wrVin2MscUst e.be e.data) 0x330040 ∧
    answers 0x0730048 (.wrVoutMscUst e.be e.data) 0x330048

/-- For every multiple of 8 from 0x330050 to 0x33FFF8: a read word decodes to RD.UST_MSC_UNK and a write word to
WR.UST_MSC_UNK; in every running state, whatever be is, the read answers rdata 0 and the write changes nothing,
each with one diagnostic record carrying BASE+A. (R130, R141) -/
def Obligations.UnknownTimebaseOffsetIsNoOp : Prop :=
  ∀ (a : Offset) (be : Lanes) (d : Word) (image : Image) (s : State), s.running = true →
    (offsetBetween 0x330050 0x33FFF8 a = true →
        decode ⟨eventWord .busRead a, be, d, image⟩ = .event (.rdUstMscUnk a be) ∧
        exec (.rdUstMscUnk a be) s = .next
          { s with rdata := some 0, diag := s.diag ++ [⟨.ustMsc, .read, Config.base + a.setWidth 64, 0, be⟩] } ∧
        decode ⟨eventWord .busWrite a, be, d, image⟩ = .event (.wrUstMscUnk a be d) ∧
        exec (.wrUstMscUnk a be d) s = .next
          { s with diag := s.diag ++ [⟨.ustMsc, .write, Config.base + a.setWidth 64, d, be⟩] })

/-- For each recognized register of the block, whatever the lane mask, the data and the image beside it: the word (kind
000, A) decodes to that register's read event, and in every running state the event answers the next state in
which, if LaneOk(be), rdata is the register and nothing else has changed, and otherwise rdata is 0 and one
diagnostic record (block, read, BASE+A, 0, be) has been appended. Covers RD.RINGBASE, RD.FLASH_NIC_CTRL,
RD.INT_STATUS and RD.INT_MASK. (R150, R151, R152, R153) -/
def Obligations.IsaRegisterReadResults : Prop :=
  ∀ (e : Event) (s : State), s.running = true →
    let answers := fun (w : EventWord) (i : Instr) (a v : Word) =>
      (e.word = w → decode e = .event i) ∧
      exec i s = .next
        (if laneOk e.be then { s with rdata := some v }
         else { s with rdata := some 0, diag := s.diag ++ [⟨.isa, .read, Config.base + a, 0, e.be⟩] })
    answers 0x0300000 (.rdRingbase e.be) 0x300000 s.regs.ringbase ∧
    answers 0x0300008 (.rdFlashNicCtrl e.be) 0x300008 s.regs.flashNicCtrl ∧
    answers 0x0300010 (.rdIntStatus e.be) 0x300010 s.regs.intStatus ∧
    answers 0x0300018 (.rdIntMask e.be) 0x300018 s.regs.intMask

/-- WR.RINGBASE, WR.FLASH_NIC_CTRL and WR.INT_MASK store all 64 bits of d when LaneOk(be) and change nothing else;
WR.INT_STATUS changes no register; each word decodes to its event; with an unexpected lane mask the write is
discarded with one diagnostic record. (R155, R156, R157, R158) -/
def Obligations.IsaRegisterWriteResults : Prop :=
  ∀ (e : Event) (s : State), s.running = true →
    let answers := fun (w : EventWord) (i : Instr) (a : Word) (r : Image) =>
      (e.word = w → decode e = .event i) ∧
      exec i s = .next
        (if laneOk e.be then { s with regs := r }
         else { s with diag := s.diag ++ [⟨.isa, .write, Config.base + a, e.data, e.be⟩] })
    answers 0x0700000 (.wrRingbase e.be e.data) 0x300000 { s.regs with ringbase := e.data } ∧
    answers 0x0700008 (.wrFlashNicCtrl e.be e.data) 0x300008 { s.regs with flashNicCtrl := e.data } ∧
    answers 0x0700010 (.wrIntStatus e.be e.data) 0x300010 s.regs ∧
    answers 0x0700018 (.wrIntMask e.be e.data) 0x300018 { s.regs with intMask := e.data }

/-- For every multiple of 8 from 0x300020 to 0x30FFF8: a read word decodes to RD.ISA_UNK and a write word to
WR.ISA_UNK; in every running state, whatever be is, the read answers rdata 0 and the write changes nothing, each
with one diagnostic record carrying BASE+A. (R154, R159) -/
def Obligations.UnknownIsaOffsetIsNoOp : Prop :=
  ∀ (a : Offset) (be : Lanes) (d : Word) (image : Image) (s : State), s.running = true →
    (offsetBetween 0x300020 0x30FFF8 a = true →
        decode ⟨eventWord .busRead a, be, d, image⟩ = .event (.rdIsaUnk a be) ∧
        exec (.rdIsaUnk a be) s = .next
          { s with rdata := some 0, diag := s.diag ++ [⟨.isa, .read, Config.base + a.setWidth 64, 0, be⟩] } ∧
        decode ⟨eventWord .busWrite a, be, d, image⟩ = .event (.wrIsaUnk a be d) ∧
        exec (.wrIsaUnk a be d) s = .next
          { s with diag := s.diag ++ [⟨.isa, .write, Config.base + a.setWidth 64, d, be⟩] })

/-- For each of the nine stub blocks and every multiple of 8 in its range: the read word decodes to the block's read
event, and in every running state, whatever be is, the answer is the same state with rdata 0 and one diagnostic
record (block, read, BASE+A, 0, be). (R172, R174, R176, R178, R180, R182, R184, R186, R188) -/
def Obligations.StubReadsGiveZero : Prop :=
  ∀ (a : Offset) (be : Lanes) (d : Word) (image : Image) (s : State), s.running = true →
    (offsetBetween 0x000000 0x07FFF8 a = true →
        decode ⟨eventWord .busRead a, be, d, image⟩ = .event (.rdPci a be) ∧
        exec (.rdPci a be) s = .next
          { s with rdata := some 0, diag := s.diag ++ [⟨.pci, .read, Config.base + a.setWidth 64, 0, be⟩] }) ∧
    (offsetBetween 0x080000 0x0FFFF8 a = true →
        decode ⟨eventWord .busRead a, be, d, image⟩ = .event (.rdVin1 a be) ∧
        exec (.rdVin1 a be) s = .next
          { s with rdata := some 0, diag := s.diag ++ [⟨.vin1, .read, Config.base + a.setWidth 64, 0, be⟩] }) ∧
    (offsetBetween 0x100000 0x17FFF8 a = true →
        decode ⟨eventWord .busRead a, be, d, image⟩ = .event (.rdVin2 a be) ∧
        exec (.rdVin2 a be) s = .next
          { s with rdata := some 0, diag := s.diag ++ [⟨.vin2, .read, Config.base + a.setWidth 64, 0, be⟩] }) ∧
    (offsetBetween 0x180000 0x1FFFF8 a = true →
        decode ⟨eventWord .busRead a, be, d, image⟩ = .event (.rdVout a be) ∧
        exec (.rdVout a be) s = .next
          { s with rdata := some 0, diag := s.diag ++ [⟨.vout, .read, Config.base + a.setWidth 64, 0, be⟩] }) ∧
    (offsetBetween 0x200000 0x27FFF8 a = true →
        decode ⟨eventWord .busRead a, be, d, image⟩ = .event (.rdEnet a be) ∧
        exec (.rdEnet a be) s = .next
          { s with rdata := some 0, diag := s.diag ++ [⟨.enet, .read, Config.base + a.setWidth 64, 0, be⟩] }) ∧
    (offsetBetween 0x280000 0x2FFFF8 a = true →
        decode ⟨eventWord .busRead a, be, d, image⟩ = .event (.rdAudio a be) ∧
        exec (.rdAudio a be) s = .next
          { s with rdata := some 0, diag := s.diag ++ [⟨.audio, .read, Config.base + a.setWidth 64, 0, be⟩] }) ∧
    (offsetBetween 0x310000 0x31FFF8 a = true →
        decode ⟨eventWord .busRead a, be, d, image⟩ = .event (.rdKbdms a be) ∧
        exec (.rdKbdms a be) s = .next
          { s with rdata := some 0, diag := s.diag ++ [⟨.kbdms, .read, Config.base + a.setWidth 64, 0, be⟩] }) ∧
    (offsetBetween 0x320000 0x32FFF8 a = true →
        decode ⟨eventWord .busRead a, be, d, image⟩ = .event (.rdI2c a be) ∧
        exec (.rdI2c a be) s = .next
          { s with rdata := some 0, diag := s.diag ++ [⟨.i2c, .read, Config.base + a.setWidth 64, 0, be⟩] }) ∧
    (offsetBetween 0x380000 0x39FFF8 a = true →
        decode ⟨eventWord .busRead a, be, d, image⟩ = .event (.rdIsaExt a be) ∧
        exec (.rdIsaExt a be) s = .next
          { s with rdata := some 0, diag := s.diag ++ [⟨.isaExt, .read, Config.base + a.setWidth 64, 0, be⟩] })

/-- For each of the nine stub blocks and every multiple of 8 in its range: the write word decodes to the block's write
event, and in every running state, whatever be and d are, the answer is the same state with one diagnostic record
(block, write, BASE+A, d, be). (R173, R175, R177, R179, R181, R183, R185, R187, R189) -/
def Obligations.StubWritesAreDiscarded : Prop :=
  ∀ (a : Offset) (be : Lanes) (d : Word) (image : Image) (s : State), s.running = true →
    (offsetBetween 0x000000 0x07FFF8 a = true →
        decode ⟨eventWord .busWrite a, be, d, image⟩ = .event (.wrPci a be d) ∧
        exec (.wrPci a be d) s = .next
          { s with diag := s.diag ++ [⟨.pci, .write, Config.base + a.setWidth 64, d, be⟩] }) ∧
    (offsetBetween 0x080000 0x0FFFF8 a = true →
        decode ⟨eventWord .busWrite a, be, d, image⟩ = .event (.wrVin1 a be d) ∧
        exec (.wrVin1 a be d) s = .next
          { s with diag := s.diag ++ [⟨.vin1, .write, Config.base + a.setWidth 64, d, be⟩] }) ∧
    (offsetBetween 0x100000 0x17FFF8 a = true →
        decode ⟨eventWord .busWrite a, be, d, image⟩ = .event (.wrVin2 a be d) ∧
        exec (.wrVin2 a be d) s = .next
          { s with diag := s.diag ++ [⟨.vin2, .write, Config.base + a.setWidth 64, d, be⟩] }) ∧
    (offsetBetween 0x180000 0x1FFFF8 a = true →
        decode ⟨eventWord .busWrite a, be, d, image⟩ = .event (.wrVout a be d) ∧
        exec (.wrVout a be d) s = .next
          { s with diag := s.diag ++ [⟨.vout, .write, Config.base + a.setWidth 64, d, be⟩] }) ∧
    (offsetBetween 0x200000 0x27FFF8 a = true →
        decode ⟨eventWord .busWrite a, be, d, image⟩ = .event (.wrEnet a be d) ∧
        exec (.wrEnet a be d) s = .next
          { s with diag := s.diag ++ [⟨.enet, .write, Config.base + a.setWidth 64, d, be⟩] }) ∧
    (offsetBetween 0x280000 0x2FFFF8 a = true →
        decode ⟨eventWord .busWrite a, be, d, image⟩ = .event (.wrAudio a be d) ∧
        exec (.wrAudio a be d) s = .next
          { s with diag := s.diag ++ [⟨.audio, .write, Config.base + a.setWidth 64, d, be⟩] }) ∧
    (offsetBetween 0x310000 0x31FFF8 a = true →
        decode ⟨eventWord .busWrite a, be, d, image⟩ = .event (.wrKbdms a be d) ∧
        exec (.wrKbdms a be d) s = .next
          { s with diag := s.diag ++ [⟨.kbdms, .write, Config.base + a.setWidth 64, d, be⟩] }) ∧
    (offsetBetween 0x320000 0x32FFF8 a = true →
        decode ⟨eventWord .busWrite a, be, d, image⟩ = .event (.wrI2c a be d) ∧
        exec (.wrI2c a be d) s = .next
          { s with diag := s.diag ++ [⟨.i2c, .write, Config.base + a.setWidth 64, d, be⟩] }) ∧
    (offsetBetween 0x380000 0x39FFF8 a = true →
        decode ⟨eventWord .busWrite a, be, d, image⟩ = .event (.wrIsaExt a be d) ∧
        exec (.wrIsaExt a be d) s = .next
          { s with diag := s.diag ++ [⟨.isaExt, .write, Config.base + a.setWidth 64, d, be⟩] })

/-- For every multiple of 8 in the two holes: the read word decodes to RD.UNMAPPED and the write word to WR.UNMAPPED;
in every running state the write answers the same state, and the read changes nothing but rdata, which is the next
free value of the uninterpreted Config.draw, and the model's own counter of draws. Nothing is known of that value,
so the statement holds for every value (log 5). That no diagnostic record is appended is the model's choice (log
13). (43_stub_blocks.md section 3, R190, R191) -/
def Obligations.HoleReadIsFreeAndHoleWriteDoesNothing : Prop :=
  ∀ (a : Offset) (be : Lanes) (d : Word) (image : Image) (s : State), s.running = true → offsetInHole a = true →
    decode ⟨eventWord .busRead a, be, d, image⟩ = .event (.rdUnmapped a be) ∧
    exec (.rdUnmapped a be) s = .next { s with rdata := some (Config.draw s.draws), draws := s.draws + 1 } ∧
    decode ⟨eventWord .busWrite a, be, d, image⟩ = .event (.wrUnmapped a be d) ∧
    exec (.wrUnmapped a be d) s = .next s

/-- For every multiple of 8 from 0x3A0000 to 0x3A7FF8: the read word decodes to RD.RTC; in every running state,
whatever be is, the answer is the same state with exactly one call RtcRead(idx) appended, idx being (A - 0x3A0000)
/ 32, and with rdata equal to the oracle's 64-bit answer, which is uninterpreted and may depend on all earlier
calls (log 6). That the call is made whatever be is rests on decision D8 (log 18), and that no diagnostic record is
made, which R206 says is not stated, on log 13; both are the model's choices. (R204, R203, R206,
92_eei_decisions.md D8) -/
def Obligations.RtcReadForwardsOneCall : Prop :=
  ∀ (a : Offset) (be : Lanes) (d : Word) (image : Image) (s : State), s.running = true →
    offsetBetween 0x3A0000 0x3A7FF8 a = true →
    let idx : RtcIndex := BitVec.ofNat 10 ((a.toNat - 0x3A0000) / 32)
    decode ⟨eventWord .busRead a, be, d, image⟩ = .event (.rdRtc a be) ∧
    exec (.rdRtc a be) s = .next
      { s with rdata := some (Config.rtcAnswer s.rtcCalls idx), rtcCalls := s.rtcCalls ++ [.read idx] }

/-- For every multiple of 8 from 0x3A0000 to 0x3A7FF8: the write word decodes to WR.RTC; in every running state,
whatever be is, the answer is the same state with exactly one call RtcWrite(idx, d mod 256) appended, idx being (A
- 0x3A0000) / 32. That the call is made whatever be is rests on decision D8 (log 18), and that no diagnostic record
is made, which R206 says is not stated, on log 13; both are the model's choices. (R205, R203, R206,
92_eei_decisions.md D8) -/
def Obligations.RtcWriteForwardsLowByte : Prop :=
  ∀ (a : Offset) (be : Lanes) (d : Word) (image : Image) (s : State), s.running = true →
    offsetBetween 0x3A0000 0x3A7FF8 a = true →
    decode ⟨eventWord .busWrite a, be, d, image⟩ = .event (.wrRtc a be d) ∧
    exec (.wrRtc a be d) s = .next
      { s with rtcCalls := s.rtcCalls ++
          [.write (BitVec.ofNat 10 ((a.toNat - 0x3A0000) / 32)) (BitVec.ofNat 8 (d.toNat % 256))] }

/-- FTICK: its word decodes to it; in every running state the answer is the state with UST one greater modulo 2^32, the
composite with that half replaced by the new count and the other half of the OLD composite kept, and INT_STATUS
with the bit of every compare register equal to the NEW composite OR'd in; nothing else changes. The bit numbers
are uninterpreted and distinct (log 3). (R101) -/
def Obligations.FastTickResult : Prop :=
  ∀ (e : Event) (s : State), s.running = true →
    let now : Word := ((s.regs.ust + 1).setWidth 64 <<< 32) ||| (s.regs.ustMsc.extractLsb' 0 32).setWidth 64
    let latched := fun (threshold : Word) (n : Nat) => if now = threshold then 1#64 <<< n else 0
    (e.word = 0x0800000 → decode e = .event .ftick) ∧
    exec .ftick s = .next
      { s with
        regs := { s.regs with
          ust := s.regs.ust + 1
          ustMsc := now
          intStatus := s.regs.intStatus ||| latched s.regs.compare1 c1Bit ||| latched s.regs.compare2 c2Bit
            ||| latched s.regs.compare3 c3Bit } }

/-- STICK: its word decodes to it; in every running state the answer is the state with MSC one greater modulo 2^32, the
composite with that half replaced by the new count and the other half of the OLD composite kept, and INT_STATUS
with the bit of every compare register equal to the NEW composite OR'd in; nothing else changes. The bit numbers
are uninterpreted and distinct (log 3). (R102) -/
def Obligations.SlowTickResult : Prop :=
  ∀ (e : Event) (s : State), s.running = true →
    let now : Word := ((s.regs.ustMsc.extractLsb' 32 32).setWidth 64 <<< 32) ||| (s.regs.msc + 1).setWidth 64
    let latched := fun (threshold : Word) (n : Nat) => if now = threshold then 1#64 <<< n else 0
    (e.word = 0x0C00000 → decode e = .event .stick) ∧
    exec .stick s = .next
      { s with
        regs := { s.regs with
          msc := s.regs.msc + 1
          ustMsc := now
          intStatus := s.regs.intStatus ||| latched s.regs.compare1 c1Bit ||| latched s.regs.compare2 c2Bit
            ||| latched s.regs.compare3 c3Bit } }

/-- RESET: its word decodes to it; from every state, running or stopped, it answers the state with every one of the
sixteen elements 0 and RUNNING true, the ports keeping what they have shown; and the model's initial state has
those same values. (R261) -/
def Obligations.ResetZeroesRegistersAndArmsSources : Prop :=
  ∀ (e : Event) (s : State),
    let cleared : Image := {
        ringbase := 0
        flashNicCtrl := 0
        intStatus := 0
        intMask := 0
        msc := 0
        ust := 0
        ustMsc := 0
        compare1 := 0
        compare2 := 0
        compare3 := 0
        ainMscUst := 0
        aout1MscUst := 0
        aout2MscUst := 0
        vin1MscUst := 0
        vin2MscUst := 0
        voutMscUst := 0 }
    (e.word = 0x1000000 → decode e = .event .reset) ∧
    exec .reset s = .next { s with regs := cleared, running := true } ∧
    State.reset.regs = cleared ∧ State.reset.running = true

/-- STOP: its word decodes to it; from every state it answers the state with RUNNING false and all else kept; in every
state with RUNNING false a tick that is presented changes nothing; and no list of events without RESET makes a
stopped device run again or, if it holds no RESTORE, changes any register. That STOP keeps the registers is
decision D14 of the spec; that a tick presented to a stopped device is a step that changes nothing, where R104 and
R210 say only that no tick occurs, is the model's reading (log 9). (R210, R104, 92_eei_decisions.md D14) -/
def Obligations.StopHaltsBothSources : Prop :=
  (∀ (e : Event) (s : State), (e.word = 0x1400000 → decode e = .event .stop) ∧
    exec .stop s = .next { s with running := false }) ∧
  (∀ s : State, s.running = false → exec .ftick s = .next s ∧ exec .stick s = .next s) ∧
  (∀ (l : List Instr) (s t : State), s.running = false → .reset ∉ l → runEvents l s = .next t →
    t.running = false ∧ ((∀ image, .restore image ∉ l) → t.regs = s.regs))

/-- SAVE: its word decodes to it; from every state, running or stopped, it answers the state in which the saved image
holds exactly the sixteen elements, each under its own name, and nothing else has changed. (R212) -/
def Obligations.SaveGivesTheSixteenElements : Prop :=
  ∀ (e : Event) (s : State),
    (e.word = 0x1800000 → decode e = .event .save) ∧
    exec .save s = .next
      { s with
        saved := some {
          ringbase := s.regs.ringbase
          flashNicCtrl := s.regs.flashNicCtrl
          intStatus := s.regs.intStatus
          intMask := s.regs.intMask
          msc := s.regs.msc
          ust := s.regs.ust
          ustMsc := s.regs.ustMsc
          compare1 := s.regs.compare1
          compare2 := s.regs.compare2
          compare3 := s.regs.compare3
          ainMscUst := s.regs.ainMscUst
          aout1MscUst := s.regs.aout1MscUst
          aout2MscUst := s.regs.aout2MscUst
          vin1MscUst := s.regs.vin1MscUst
          vin2MscUst := s.regs.vin2MscUst
          voutMscUst := s.regs.voutMscUst } }

/-- RESTORE: its word decodes to it with the image beside it; from every state it answers the state with the sixteen
elements of the image, any image at all, and nothing else changed, so RUNNING keeps its value and no compare
evaluation runs; RESTORE of what SAVE gave leaves the state SAVE left, and SAVE after RESTORE gives the image
restored. That RUNNING is kept and that any image at all is taken, coherent or not, rest on decision D15 of the
spec (log 19). (R213, R214, 92_eei_decisions.md D15) -/
def Obligations.RestoreLoadsTheImage : Prop :=
  (∀ (e : Event) (s : State), (e.word = 0x1C00000 → decode e = .event (.restore e.image)) ∧
    exec (.restore e.image) s = .next { s with regs := e.image }) ∧
  (∀ (s : State) (image : Image),
    runEvents [.save, .restore s.regs] s = exec .save s ∧
    runEvents [.restore image, .save] s = .next { s with regs := image, saved := some image })

/-- Every one of the bus events, with any operands, is refused by name in every state with RUNNING false. The source
says nothing of accessing a stopped device; that the model refuses is decision D14 of the spec (log 10).
(92_eei_decisions.md D14, 93_implementation_defined.md U13, R211) -/
def Obligations.StoppedDeviceRefusesBusEvents : Prop :=
  ∀ (i : Instr) (s : State), isBusEvent i = true → s.running = false →
    exec i s = .refused .busAccessWhileStopped

/-- Every one of the sixty events, with any operands, answers a next state in every state with RUNNING true: there is
no fault and no refusal. (R220) -/
def Obligations.EveryEventOfARunningDeviceCompletes : Prop :=
  ∀ (i : Instr) (s : State), s.running = true → ∃ t, exec i s = .next t

/-- Every bus read, with any operands, that answers a next state leaves the sixteen elements, RUNNING, the timeline and
the saved image as they were; and the same read of a recognized register done again at once drives the same value.
(20_memory.md section 2, R59) -/
def Obligations.BusReadsChangeNoRegister : Prop :=
  ∀ (i : Instr) (s t : State), isBusRead i = true → exec i s = .next t →
    t.regs = s.regs ∧ t.running = s.running ∧ t.timeline = s.timeline ∧ t.saved = s.saved ∧
    (recognizedLanes i ≠ none → ∃ u, exec i t = .next u ∧ u.rdata = t.rdata)

/-- If the composite register is the composition of the two counters and the image of every RESTORE still to come is
coherent in the same sense, then after any step that answers a next state both hold again. R214 says an image need
not be coherent; the premise on the images is what R27 asks for. (10_state.md section 2, R27, R214) -/
def Obligations.StepKeepsCompositeInvariant : Prop :=
  ∀ s t : State, CompositeInv s → step s = .next t → CompositeInv t

/-- The invariant that every step keeps holds in State.reset, and in the state any RESET event gives if no incoherent
RESTORE is still to come. (R27, R41) -/
def Obligations.CompositeInvariantHoldsAtReset : Prop :=
  CompositeInv State.reset ∧
  ∀ s t : State, (∀ e ∈ s.timeline, presentsRestore e = true → Coherent e.image) → exec .reset s = .next t →
    CompositeInv t

/-- From any state, after RESET and any list of events at all in which every restored image is coherent, the composite
is (UST << 32) | MSC exactly. (R27) -/
def Obligations.CompositeIsExactInEveryRunFromReset : Prop :=
  ∀ (l : List Instr) (s t : State), (∀ image, .restore image ∈ l → Coherent image) →
    runEvents (.reset :: l) s = .next t →
    t.regs.ustMsc = (t.regs.ust.setWidth 64 <<< 32) ||| t.regs.msc.setWidth 64

/-- If all six snapshots are zero, no status bit other than the three compare bits is set and no RESTORE is still to
come, then the same holds after any step that answers a next state. (R30, R34) -/
def Obligations.StepKeepsSnapshotsZeroAndStatusClean : Prop :=
  ∀ s t : State, NoRestoreInv s → step s = .next t → NoRestoreInv t

/-- In State.reset, and after any RESET event with no RESTORE still to come, the no-RESTORE invariant holds (snapshots
zero, no status bit but the three compare bits, no RESTORE to come), and the three compare bits are zero too:
INT_STATUS is 0. (R30, R34, R41) -/
def Obligations.NoRestoreInvariantHoldsAtReset : Prop :=
  (NoRestoreInv State.reset ∧ State.reset.regs.intStatus = 0) ∧
  ∀ s t : State, (∀ e ∈ s.timeline, presentsRestore e = false) → exec .reset s = .next t →
    NoRestoreInv t ∧ t.regs.intStatus = 0

/-- After RESET and any list of events without RESTORE no status bit other than the three compare bits is set; and over
any list of events with neither RESET nor RESTORE, from any state, every status bit that was set is still set.
(R34) -/
def Obligations.StatusBitsStayUntilReset : Prop :=
  (∀ (l : List Instr) (s t : State), (∀ image, .restore image ∉ l) → runEvents (.reset :: l) s = .next t →
    OnlyCompareBits t.regs) ∧
  (∀ (l : List Instr) (s t : State), (∀ image, .restore image ∉ l) → .reset ∉ l → runEvents l s = .next t →
    BitsWithin s.regs.intStatus t.regs.intStatus)

/-- After a tick in a running state, each of the 64 status bits is set if and only if it was set before, or it is the
bit of a compare register that equals the composite after the tick, bit for bit; so a compare register the
composite steps over sets nothing, and two or three equal ones set their bits together. (40_timebase_engine.md
section 3, R103, R106, R111) -/
def Obligations.TickSetsExactlyTheMatchingBits : Prop :=
  ∀ (i : Instr) (s : State), isTick i = true → s.running = true →
    ∃ t, exec i s = .next t ∧ ∀ k, k < 64 →
      (t.regs.intStatus.getLsbD k = true ↔
        s.regs.intStatus.getLsbD k = true ∨ (k = c1Bit ∧ t.regs.ustMsc = s.regs.compare1) ∨
          (k = c2Bit ∧ t.regs.ustMsc = s.regs.compare2) ∨ (k = c3Bit ∧ t.regs.ustMsc = s.regs.compare3))

/-- If a tick of a running device ends with the composite equal to a compare register, that register's status bit is
set at the end of that same event, and is still set after any further events with neither RESET nor RESTORE among
them; for each of the three. (R112) -/
def Obligations.MatchLatchesUntilReset : Prop :=
  ∀ (i : Instr) (s t u : State) (l : List Instr), isTick i = true → s.running = true → exec i s = .next t →
    .reset ∉ l → (∀ image, .restore image ∉ l) → runEvents l t = .next u →
    let latched := fun (threshold : Word) (n : Nat) =>
      t.regs.ustMsc = threshold → t.regs.intStatus.getLsbD n = true ∧ u.regs.intStatus.getLsbD n = true
    latched t.regs.compare1 c1Bit ∧ latched t.regs.compare2 c2Bit ∧ latched t.regs.compare3 c3Bit

/-- An event that is not a tick leaves INT_STATUS as it was, except that RESET makes it 0, though composite and compare
registers are then all equal, and RESTORE makes it the image's, whatever the composite and the compare registers
are. A status bit that any event other than RESTORE newly sets is the bit of a compare register, the event is a
tick, and the composite after it equals that compare register. (R107) -/
def Obligations.OnlyTicksEvaluateCompares : Prop :=
  ∀ (i : Instr) (s t : State), exec i s = .next t →
    (i = .reset → t.regs.intStatus = 0 ∧ t.regs.ustMsc = t.regs.compare1 ∧ t.regs.ustMsc = t.regs.compare2 ∧
      t.regs.ustMsc = t.regs.compare3) ∧
    (∀ image, i = .restore image → t.regs.intStatus = image.intStatus) ∧
    (isTick i = false → i ≠ .reset → (∀ image, i ≠ .restore image) → t.regs.intStatus = s.regs.intStatus) ∧
    (∀ k, (∀ image, i ≠ .restore image) → s.regs.intStatus.getLsbD k = false → t.regs.intStatus.getLsbD k = true →
      isTick i = true ∧ ((k = c1Bit ∧ t.regs.ustMsc = t.regs.compare1) ∨ (k = c2Bit ∧ t.regs.ustMsc = t.regs.compare2) ∨
        (k = c3Bit ∧ t.regs.ustMsc = t.regs.compare3)))

/-- After RESET, any list of ticks, bus events and SAVEs in any order completes, and then UST is the number of fast
ticks in it modulo 2^32, MSC the number of slow ticks modulo 2^32, and the composite is made of the two. (R110) -/
def Obligations.CountersCountTheirTicks : Prop :=
  ∀ (l : List Instr) (s : State), (∀ i ∈ l, interruptsCounting i = false) →
    ∃ t, runEvents (.reset :: l) s = .next t ∧
      t.regs.ust = BitVec.ofNat 32 (l.count .ftick) ∧ t.regs.msc = BitVec.ofNat 32 (l.count .stick) ∧
      t.regs.ustMsc.toNat = l.count .ftick % 2 ^ 32 * 2 ^ 32 + l.count .stick % 2 ^ 32

/-- For every event other than RESET and RESTORE that answers a next state: UST changes only by FTICK, MSC only by
STICK, the composite and INT_STATUS only by a tick, each compare register, RINGBASE, FLASH_NIC_CTRL and INT_MASK
only by its own write event, no snapshot ever, and RUNNING only by STOP. (R24, R25, R26, R28, R29, R31, R33, R35,
R36, R100, R21) -/
def Obligations.RegistersHaveOnlyTheirWriters : Prop :=
  ∀ (i : Instr) (s t : State), exec i s = .next t → i ≠ .reset → (∀ image, i ≠ .restore image) →
    (t.regs.ust ≠ s.regs.ust → i = .ftick) ∧
    (t.regs.msc ≠ s.regs.msc → i = .stick) ∧
    (t.regs.ustMsc ≠ s.regs.ustMsc → i = .ftick ∨ i = .stick) ∧
    (t.regs.intStatus ≠ s.regs.intStatus → i = .ftick ∨ i = .stick) ∧
    (t.regs.compare1 ≠ s.regs.compare1 → ∃ be d, i = .wrCompare1 be d) ∧
    (t.regs.compare2 ≠ s.regs.compare2 → ∃ be d, i = .wrCompare2 be d) ∧
    (t.regs.compare3 ≠ s.regs.compare3 → ∃ be d, i = .wrCompare3 be d) ∧
    (t.regs.ringbase ≠ s.regs.ringbase → ∃ be d, i = .wrRingbase be d) ∧
    (t.regs.flashNicCtrl ≠ s.regs.flashNicCtrl → ∃ be d, i = .wrFlashNicCtrl be d) ∧
    (t.regs.intMask ≠ s.regs.intMask → ∃ be d, i = .wrIntMask be d) ∧
    (t.regs.ainMscUst = s.regs.ainMscUst ∧ t.regs.aout1MscUst = s.regs.aout1MscUst ∧
      t.regs.aout2MscUst = s.regs.aout2MscUst ∧ t.regs.vin1MscUst = s.regs.vin1MscUst ∧
      t.regs.vin2MscUst = s.regs.vin2MscUst ∧ t.regs.voutMscUst = s.regs.voutMscUst) ∧
    (t.running ≠ s.running → i = .stop)

/-- In every running state, after a full-width write of d the next full-width read of the same register gives d, for
COMPARE1 to 3, RINGBASE, FLASH_NIC_CTRL and INT_MASK; for UST_MSC, INT_STATUS and each snapshot it gives what the
register held before the write. (20_memory.md section 4, R72, R278) -/
def Obligations.WrittenRegisterReadsBack : Prop :=
  ∀ (d : Word) (s : State), s.running = true →
    let readsBack := fun (w r : Instr) (v : Word) => ∃ t, runEvents [w, r] s = .next t ∧ t.rdata = some v
    readsBack (.wrCompare1 0xFF d) (.rdCompare1 0xFF) d ∧
    readsBack (.wrCompare2 0xFF d) (.rdCompare2 0xFF) d ∧
    readsBack (.wrCompare3 0xFF d) (.rdCompare3 0xFF) d ∧
    readsBack (.wrRingbase 0xFF d) (.rdRingbase 0xFF) d ∧
    readsBack (.wrFlashNicCtrl 0xFF d) (.rdFlashNicCtrl 0xFF) d ∧
    readsBack (.wrIntMask 0xFF d) (.rdIntMask 0xFF) d ∧
    readsBack (.wrUstMsc 0xFF d) (.rdUstMsc 0xFF) s.regs.ustMsc ∧
    readsBack (.wrIntStatus 0xFF d) (.rdIntStatus 0xFF) s.regs.intStatus ∧
    readsBack (.wrAinMscUst 0xFF d) (.rdAinMscUst 0xFF) s.regs.ainMscUst ∧
    readsBack (.wrAout1MscUst 0xFF d) (.rdAout1MscUst 0xFF) s.regs.aout1MscUst ∧
    readsBack (.wrAout2MscUst 0xFF d) (.rdAout2MscUst 0xFF) s.regs.aout2MscUst ∧
    readsBack (.wrVin1MscUst 0xFF d) (.rdVin1MscUst 0xFF) s.regs.vin1MscUst ∧
    readsBack (.wrVin2MscUst 0xFF d) (.rdVin2MscUst 0xFF) s.regs.vin2MscUst ∧
    readsBack (.wrVoutMscUst 0xFF d) (.rdVoutMscUst 0xFF) s.regs.voutMscUst

/-- In every running state whose composite is coherent (the invariant the steps keep), after a full-width write of the
present composite to a compare register that register's status bit is as it was, and so it is after whichever tick
comes next; for each of the three. (70_reset_and_hazards.md section 3, R271) -/
def Obligations.WritingThePresentValueDoesNotMatch : Prop :=
  ∀ (s : State) (i : Instr), s.running = true → Coherent s.regs → isTick i = true →
    let missed := fun (w : Instr) (n : Nat) => ∃ t u, exec w s = .next t ∧ exec i t = .next u ∧
      t.regs.intStatus.getLsbD n = s.regs.intStatus.getLsbD n ∧
      u.regs.intStatus.getLsbD n = s.regs.intStatus.getLsbD n
    missed (.wrCompare1 0xFF s.regs.ustMsc) c1Bit ∧
    missed (.wrCompare2 0xFF s.regs.ustMsc) c2Bit ∧
    missed (.wrCompare3 0xFF s.regs.ustMsc) c3Bit

/-- In every running, coherent state a fast and a slow tick in either order complete and give the same counters and
composite and differ at most in INT_STATUS; fast first passes through (UST+1, MSC), slow first through (UST,
MSC+1). (R108, R111, R285) -/
def Obligations.TickOrderShowsOnlyInTheStatus : Prop :=
  ∀ s : State, s.running = true → Coherent s.regs →
    ∃ a b c d, exec .ftick s = .next a ∧ exec .stick a = .next b ∧ exec .stick s = .next c ∧ exec .ftick c = .next d ∧
      a.regs.ustMsc = compose (s.regs.ust + 1) s.regs.msc ∧ c.regs.ustMsc = compose s.regs.ust (s.regs.msc + 1) ∧
      b.regs.ustMsc = compose (s.regs.ust + 1) (s.regs.msc + 1) ∧
      { b.regs with intStatus := d.regs.intStatus } = d.regs

/-- LaneOk holds under STRICT exactly for be = 0xFF and under IGNORE for every mask. So, for the register access every
recognized register uses, with any be other than 0xFF: under STRICT a read gives 0 and a write changes no register;
under IGNORE a read gives the whole register and a write stores the whole value. This machine's policy is STRICT,
the spec's decision D7 (log 1). (R277, 92_eei_decisions.md D7) -/
def Obligations.SubWordAccessNeverMergesLanes : Prop :=
  (∀ be : Lanes, (laneOkUnder .strict be = true ↔ be = 0xFF) ∧ laneOkUnder .ignore be = true ∧
    laneOk be = laneOkUnder .strict be) ∧
  (∀ (b : Block) (a : Offset) (be : Lanes) (v d : Word) (r : Image) (s : State), be ≠ 0xFF →
    (readRegister .strict b a be v s).rdata = some 0 ∧ (readRegister .strict b a be v s).regs = s.regs ∧
    (writeRegister .strict b a be d r s).regs = s.regs ∧
    readRegister .ignore b a be v s = { s with rdata := some v } ∧
    writeRegister .ignore b a be d r s = { s with regs := r })

/-- In every running state the diagnostic channel after an event is the channel before it followed by at most one
record, and by exactly one if and only if the event is anomaly (a), anomaly (b) or a write of a snapshot register.
That no other event appends a record is the model's choice, which the spec permits (R224, U18; log 13).
(60_exceptions.md section 1, R221, R222, R223, R142) -/
def Obligations.AnomaliesAppendOneRecord : Prop :=
  ∀ (i : Instr) (s t : State), s.running = true → exec i s = .next t →
    ∃ records, t.diag = s.diag ++ records ∧
      records.length = if anomalyA i || anomalyB i || writesSnapshot i then 1 else 0

/-- Two states that differ only in the diagnostic channel give, under every event, the same answer up to the diagnostic
channel. (R224) -/
def Obligations.DiagnosticChannelIsOutputOnly : Prop :=
  ∀ (i : Instr) (s : State) (records : List DiagRecord),
    mapNext (withDiag []) (exec i (withDiag records s)) = mapNext (withDiag []) (exec i s)

/-- For every event other than RD.INT_MASK, WR.INT_MASK, SAVE, RESET and RESTORE, running it with another value in
INT_MASK gives the same answer with that other value still in INT_MASK: in particular a match sets its bit whatever
the mask holds. (R231, R35) -/
def Obligations.MaskIsStoredAndAppliedToNothing : Prop :=
  ∀ (i : Instr) (s : State) (m : Word), touchesMask i = false →
    exec i (withMask m s) = mapNext (withMask m) (exec i s)

/-- For every aligned offset inside a block, the diagnostic address BASE + A equals the block's base BASE + First plus
8 times the lane index inside the block. (R63, C3) -/
def Obligations.AbsoluteAddressIsBlockBasePlusLane : Prop :=
  ∀ (a : Offset) (b : Block), blockAt a = some b → a.toNat % 8 = 0 →
    absAddr a = (Config.base + (firstOffset b).setWidth 64) + (wordIndex b a).setWidth 64 * 8

/-- For any two offsets in the RTC range the RTC indices are equal if and only if the offsets lie in the same 32-byte
slot, and the index is (A - 0x3A0000) / 32, below 1024. (R201, R202, R279) -/
def Obligations.RtcSlotsAlias : Prop :=
  ∀ a b : Offset, 0x3A0000 ≤ a.toNat → a.toNat ≤ 0x3A7FFF → 0x3A0000 ≤ b.toNat → b.toNat ≤ 0x3A7FFF →
    (rtcIndex a).toNat = (a.toNat - 0x3A0000) / 32 ∧ (rtcIndex a = rtcIndex b ↔ a.toNat / 32 = b.toNat / 32)

/-- For every one of the sixty events, with every operand at every value its rule admits, decode of encode of it is
that event. (30_encoding.md section 1, R80, R84, R89) -/
def Obligations.DecodeInvertsEncode : Prop :=
  ∀ i : Instr, i.wellFormed = true → decode (encode i) = .event i

/-- If a presented event decodes, the event it decodes to is well formed, its encoding has the word presented, and, for
the operands the event uses, presenting the encoding again decodes to the same event. (R80, R84, R81) -/
def Obligations.EncodeInvertsDecode : Prop :=
  ∀ (e : Event) (i : Instr), decode e = .event i →
    i.wellFormed = true ∧ (encode i).word = e.word ∧ decode (encode i) = decode e

/-- A presented event decodes exactly when its word has A[2:0] = 0 (bus kinds) or A = 0 (the other kinds); and then its
word fits the opcode-table row of the event it decodes to, no row that stands before that one in opcode_table.json,
and no row whose mask has a 1 bit that its mask lacks. The order is the file's: it need not fall in the number of
mask bits over the whole table, but it does among the rows that fit one word. (R84) -/
def Obligations.DecodePicksTheMostSpecificRow : Prop :=
  (∀ e : Event, (∃ i, decode e = .event i) ↔
    (if kindField e.word = 0b000 ∨ kindField e.word = 0b001 then (offsetField e.word).extractLsb' 0 3 = 0
     else offsetField e.word = 0)) ∧
  (∀ (e : Event) (i : Instr), decode e = .event i →
    firstFit e.word = some i.mnemonic ∧
    ∃ row ∈ opcodeTable, row.mnemonic = i.mnemonic ∧ fitsRow e.word row = true ∧
      ∀ other ∈ opcodeTable, fitsRow e.word other = true → other.mask &&& row.mask = other.mask)

/-- Two presented events with the same word decode to events of the same opcode-table row, or are both rejected for the
same reason. (R81, R62) -/
def Obligations.OperandsTakeNoPartInDecode : Prop :=
  ∀ e f : Event, e.word = f.word →
    (∀ why, decode e = .rejected why ↔ decode f = .rejected why) ∧
    (∀ i, decode e = .event i → ∃ j, decode f = .event j ∧ j.mnemonic = i.mnemonic)

/-- For every 22-bit offset, the block found by the ranges of R60 is the one whose top bits R86 gives, and there is
none exactly from 0x340000 to 0x37FFFF and from 0x3A8000 up. (R60, R61, R86) -/
def Obligations.AddressMapIsByTopBits : Prop :=
  ∀ a : Offset,
    (blockAt a = some .pci ↔ a.extractLsb' 19 3 = 0b000) ∧
    (blockAt a = some .vin1 ↔ a.extractLsb' 19 3 = 0b001) ∧
    (blockAt a = some .vin2 ↔ a.extractLsb' 19 3 = 0b010) ∧
    (blockAt a = some .vout ↔ a.extractLsb' 19 3 = 0b011) ∧
    (blockAt a = some .enet ↔ a.extractLsb' 19 3 = 0b100) ∧
    (blockAt a = some .audio ↔ a.extractLsb' 19 3 = 0b101) ∧
    (blockAt a = some .isa ↔ a.extractLsb' 16 6 = 0b110000) ∧
    (blockAt a = some .kbdms ↔ a.extractLsb' 16 6 = 0b110001) ∧
    (blockAt a = some .i2c ↔ a.extractLsb' 16 6 = 0b110010) ∧
    (blockAt a = some .ustMsc ↔ a.extractLsb' 16 6 = 0b110011) ∧
    (blockAt a = some .isaExt ↔ a.extractLsb' 17 5 = 0b11100) ∧
    (blockAt a = some .rtc ↔ a.extractLsb' 15 7 = 0b1110100) ∧
    (blockAt a = none ↔ (0x340000 ≤ a.toNat ∧ a.toNat ≤ 0x37FFFF) ∨ 0x3A8000 ≤ a.toNat)

/-- For every block-relative offset the register selected is the one the spec's two lists give for exactly that offset,
and none for any other offset; the words of each register's read and write events are (kind << 22) + A with A the
block's first offset plus the listed one. (30_encoding.md section 3, R87, R88) -/
def Obligations.RegisterSelectionIsExact : Prop :=
  (∀ boff : Offset,
    timebaseRegAt boff = (
      if boff = 0x00 then some .ustMsc else
      if boff = 0x08 then some .compare1 else
      if boff = 0x10 then some .compare2 else
      if boff = 0x18 then some .compare3 else
      if boff = 0x20 then some .ainMscUst else
      if boff = 0x28 then some .aout1MscUst else
      if boff = 0x30 then some .aout2MscUst else
      if boff = 0x38 then some .vin1MscUst else
      if boff = 0x40 then some .vin2MscUst else
      if boff = 0x48 then some .voutMscUst else
      none) ∧
    isaRegAt boff = (
      if boff = 0x00 then some .ringbase else
      if boff = 0x08 then some .flashNicCtrl else
      if boff = 0x10 then some .intStatus else
      if boff = 0x18 then some .intMask else
      none)) ∧
  (∀ (r : TimebaseReg) (be : Lanes) (d : Word),
    timebaseRegAt (timebaseOffset r) = some r ∧
    (encode (timebaseReadEvent be r)).word.toNat = 0x330000 + (timebaseOffset r).toNat ∧
    (encode (timebaseWriteEvent be d r)).word.toNat = 2 ^ 22 + 0x330000 + (timebaseOffset r).toNat) ∧
  (∀ (r : IsaReg) (be : Lanes) (d : Word),
    isaRegAt (isaOffset r) = some r ∧
    (encode (isaReadEvent be r)).word.toNat = 0x300000 + (isaOffset r).toNat ∧
    (encode (isaWriteEvent be d r)).word.toNat = 2 ^ 22 + 0x300000 + (isaOffset r).toNat)

/-- Fourteen of the spec's decode vectors, with at least one from every family, decode to the events the spec names,
the operands beside the word being zero. (95_test_vectors.md section 2.7, R80) -/
def Obligations.SampleWordsDecode : Prop :=
  decodeTableWord 32 0x0330018 = some (.rdCompare3 0) ∧
  decodeTableWord 32 0x0730048 = some (.wrVoutMscUst 0 0) ∧
  decodeTableWord 32 0x073FFF8 = some (.wrUstMscUnk 0x33FFF8 0 0) ∧
  decodeTableWord 32 0x0300010 = some (.rdIntStatus 0) ∧
  decodeTableWord 32 0x0300020 = some (.rdIsaUnk 0x300020 0) ∧
  decodeTableWord 32 0x047FFF8 = some (.wrPci 0x07FFF8 0 0) ∧
  decodeTableWord 32 0x0280000 = some (.rdAudio 0x280000 0) ∧
  decodeTableWord 32 0x06FFFF8 = some (.wrAudio 0x2FFFF8 0 0) ∧
  decodeTableWord 32 0x079FFF8 = some (.wrIsaExt 0x39FFF8 0 0) ∧
  decodeTableWord 32 0x07A7FF8 = some (.wrRtc 0x3A7FF8 0 0) ∧
  decodeTableWord 32 0x0340000 = some (.rdUnmapped 0x340000 0) ∧
  decodeTableWord 32 0x07FFFF8 = some (.wrUnmapped 0x3FFFF8 0 0) ∧
  decodeTableWord 32 0x0800000 = some (.ftick) ∧
  decodeTableWord 32 0x1400000 = some (.stop)

/-- When the first event of the timeline decodes to i, step is exec of i on the state with that event taken off the
timeline and nothing else changed; in particular step of withFetchWord runs exactly the placed event on the state
it was placed in. (R70, R71) -/
def Obligations.StepRunsTheDecodedEvent : Prop :=
  (∀ (e : Event) (rest : List Event) (i : Instr) (s : State), s.timeline = e :: rest → decode e = .event i →
    step s = exec i { s with timeline := rest }) ∧
  (∀ (nbits w : Nat) (i : Instr) (s : State), w < 2 ^ nbits → decodeTableWord nbits w = some i →
    step (s.withFetchWord nbits w) = exec i s)

/-- When the first word of the timeline is a bus word whose offset is not a multiple of 8, or another word whose low 22
bits are not zero, step refuses it, and refuses under the name of that condition. The rules say only that such a
word is no event and cannot be presented; that a step meeting one refuses it, and under which name, is the model's
choice (log 11). (R84, R51, R80) -/
def Obligations.NonEventWordsAreRefused : Prop :=
  ∀ (e : Event) (rest : List Event) (s : State), s.timeline = e :: rest →
    (((kindField e.word).toNat < 2 ∧ (offsetField e.word).toNat % 8 ≠ 0) → step s = .refused .offsetNotAligned) ∧
    ((2 ≤ (kindField e.word).toNat ∧ offsetField e.word ≠ 0) → step s = .refused .zeroFieldNotZero)

/-- When the timeline is empty, a step of a running device is FTICK or STICK on the state with the model's own counter
of choices advanced, and which of the two is a free value (log 7), fair as R104 asks (log 22); a step of a stopped
device answers the same state. How a step goes when nothing is listed is the model's choice. (40_timebase_engine.md
section 1, R104, R73, R210) -/
def Obligations.IdleStepTicksOneSource : Prop :=
  ∀ s : State, s.timeline = [] →
    (s.running = true → ∃ t, step s = .next t ∧
      (exec .ftick { s with choices := s.choices + 1 } = .next t ∨
        exec .stick { s with choices := s.choices + 1 } = .next t)) ∧
    (s.running = false → step s = .next s)

/-- For every offset, lane mask and datum: executing the event a bus read or write decodes to is BusRead or BusWrite of
R53, which dispatches on the block and hands the block-relative offset to the handler frame of the timebase block,
the ISA block, the RTC bridge or a stub. (R53, R142, R160, R170) -/
def Obligations.EventMeaningsAgreeWithHandlerFrames : Prop :=
  (∀ (a : Offset) (be : Lanes) (s : State), exec (busReadEvent a be) s = busRead a be s) ∧
  (∀ (a : Offset) (be : Lanes) (d : Word) (s : State), exec (busWriteEvent a be d) s = busWrite a be d s)

/-- Whatever order coincidences are settled in, a tick of the timed refinement of a running device completes and its
untimed part is what FTICK or what STICK gives; time moves forward by exactly the time to the tick due soonest.
(70_reset_and_hazards.md section 4, R284) -/
def Obligations.TimedTicksAreUntimedTicks : Prop :=
  ∀ (order : TickSource) (t : TimedState), t.core.running = true →
    ∃ t', timedTickUnder order t = .next t' ∧
      (exec .ftick t.core = .next t'.core ∨ exec .stick t.core = .next t'.core) ∧
      t'.elapsed = t.elapsed + min t.nextFast t.nextSlow

/-- TimedInv says of a timed state that UST is f modulo 2^32 and the next fast tick is due at 960 (f + 1) since RESET,
at most one period away, for the number f of fast ticks there have been, and likewise MSC with 1 000 000. In every
state that meets it, UST is the elapsed time divided by 960 and MSC the elapsed time divided by 1 000 000, modulo
2^32, unless a tick of that source is due and still to happen; and it is met again after a tick in whichever order
a coincidence is settled, after a wait of any length, and after every bus or host event but RESTORE, which can load
any counters. That the first tick comes one period after RESET is decision D12 (log 21), and that no time passes
for a stopped device is the model's choice (log 21). (70_reset_and_hazards.md section 4, R284, R285, R262, R286,
92_eei_decisions.md D12) -/
def Obligations.TimedCountersAreElapsedOverPeriod : Prop :=
  ∀ t : TimedState, TimedInv t →
    (0 < t.nextFast → t.core.regs.ust = BitVec.ofNat 32 (t.elapsed / 960)) ∧
    (0 < t.nextSlow → t.core.regs.msc = BitVec.ofNat 32 (t.elapsed / 1000000)) ∧
    (∀ (order : TickSource) (t' : TimedState), timedTickUnder order t = .next t' → TimedInv t') ∧
    (∀ d : Nat, TimedInv (timedWait d t)) ∧
    (∀ (i : Instr) (t' : TimedState), (∀ image, i ≠ .restore image) → timedEvent i t = .next t' → TimedInv t')

/-- When both ticks of a running, coherent device are due at the same instant: fast first passes through (UST+1, MSC),
slow first through (UST, MSC+1); in both, the other tick comes next with no time passing, and the composite is then
(UST+1, MSC+1). (R285) -/
def Obligations.CoincidentTicksAdmitBothOrders : Prop :=
  ∀ (t : TimedState) (order : TickSource), t.core.running = true → Coherent t.core.regs → t.nextFast = t.nextSlow →
    ∃ a b c d, timedTickUnder .fast t = .next a ∧ timedTickUnder order a = .next b ∧
      timedTickUnder .slow t = .next c ∧ timedTickUnder order c = .next d ∧
      a.core.regs.ustMsc = compose (t.core.regs.ust + 1) t.core.regs.msc ∧
      c.core.regs.ustMsc = compose t.core.regs.ust (t.core.regs.msc + 1) ∧
      b.core.regs.ustMsc = compose (t.core.regs.ust + 1) (t.core.regs.msc + 1) ∧
      d.core.regs.ustMsc = compose (t.core.regs.ust + 1) (t.core.regs.msc + 1) ∧
      b.elapsed = a.elapsed ∧ d.elapsed = c.elapsed

/-- From every timed state RESET completes, its untimed part is what RESET gives, and both sources then have one whole
period to go, 960 and 1 000 000; every other event that is not a tick and completes in the untimed machine leaves
both times as they are and has its untimed effect. That the first tick comes one period after RESET is the spec's
decision D12 (log 21). (70_reset_and_hazards.md section 4, R262, R284, R286) -/
def Obligations.TimedEventsTakeNoTimeAndResetArms : Prop :=
  ∀ t : TimedState,
    (∃ c, exec .reset t.core = .next c ∧ timedEvent .reset t = .next
      { core := c, nextFast := 960, nextSlow := 1000000, elapsed := 0, coincidences := t.coincidences }) ∧
    (∀ (i : Instr) (c : State), i ≠ .reset → isTick i = false → exec i t.core = .next c →
      timedEvent i t = .next { t with core := c })

/-- In every state whose composite is coherent (the invariant the steps keep), the UST view is bits 63:32 and the MSC
view bits 31:0 of the composite register. (R252, R27) -/
def Obligations.SplitViewShowsTheComposite : Prop :=
  ∀ s : State, Coherent s.regs →
    ustView s = s.regs.ustMsc.extractLsb' 32 32 ∧ mscView s = s.regs.ustMsc.extractLsb' 0 32

/-- In every infinite execution of the machine, from any state and whatever events are listed in it, in which the
device is running again and again, each of the two sources ticks of itself infinitely often: after every point
there is a later step at which nothing is listed and the state that follows is that of FTICK, and one at which it
is that of STICK. The free order of ticks is fair by construction (log 22); how soon a tick comes is not said.
(40_timebase_engine.md section 2, R104, R283) -/
def Obligations.BothSourcesTickWithoutEnd : Prop :=
  ∀ σ : Nat → State, EndlessRun σ → (∀ n, ∃ m, n ≤ m ∧ (σ m).running = true) →
    ∀ (source : TickSource) (n : Nat), ∃ m, n ≤ m ∧ ticksAt source σ m

/-- TimedInv holds in TimedState.reset, and after a RESET event from any timed state, whatever its counters were. That
a whole period is then to go is decision D12 (log 21). (70_reset_and_hazards.md section 4, R284, R262,
92_eei_decisions.md D12) -/
def Obligations.TimedInvariantHoldsAtReset : Prop :=
  TimedInv TimedState.reset ∧ ∀ t t' : TimedState, timedEvent .reset t = .next t' → TimedInv t'
end

