-- ==== Sys2Proof/Laws/Decode.lean ====
section
/-! SUPPORT. The fields of an event word, the address map as a chain of upper bounds, the operands of a decoded event,
and what a row's mask selects. -/

namespace Sys2Proof

/-! ### Fields of an event word -/

/-- The offset field of an event word is the offset it was made from. -/
theorem offsetField_eventWord (k : Kind) (a : Offset) : offsetField (eventWord k a) = a := by
  apply BitVec.eq_of_getLsbD_eq
  intro i hi
  have h := BitVec.getLsbD_append (x := kindCode k) (y := a) (i := i)
  rw [offsetField, eventWord, BitVec.getLsbD_extractLsb']
  simp_all

/-- The kind field of an event word is the code of the kind it was made from. -/
theorem kindField_eventWord (k : Kind) (a : Offset) : kindField (eventWord k a) = kindCode k := by
  apply BitVec.eq_of_getLsbD_eq
  intro i hi
  have h := BitVec.getLsbD_append (x := kindCode k) (y := a) (i := 22 + i)
  rw [kindField, eventWord, BitVec.getLsbD_extractLsb', h]
  simp [hi]

@[simp] theorem kindOf_kindCode (k : Kind) : kindOf (kindCode k) = k := by
  cases k <;> rfl

@[simp] theorem kindCode_kindOf (k : BitVec 3) : kindCode (kindOf k) = k := by
  revert k
  decide

theorem kindOf_eventWord (k : Kind) (a : Offset) : kindOf (kindField (eventWord k a)) = k := by
  rw [kindField_eventWord, kindOf_kindCode]

/-- The event word of the two fields, as a number. -/
theorem eventWord_toNat (k : Kind) (a : Offset) :
    (eventWord k a).toNat = (kindCode k).toNat * 4194304 + a.toNat := by
  have h : (eventWord k a).toNat = (kindCode k).toNat <<< 22 ||| a.toNat :=
    BitVec.toNat_append (kindCode k) a
  rw [h, ← Nat.shiftLeft_add_eq_or_of_lt a.isLt, Nat.shiftLeft_eq]

/-- An event word is its kind and its offset side by side. -/
theorem eventWord_fields (w : EventWord) : eventWord (kindOf (kindField w)) (offsetField w) = w := by
  apply BitVec.eq_of_toNat_eq
  rw [eventWord_toNat, kindCode_kindOf, kindField, offsetField, BitVec.extractLsb'_toNat, BitVec.extractLsb'_toNat,
    Nat.shiftRight_eq_div_pow, Nat.shiftRight_eq_div_pow]
  have := w.isLt
  omega

/-! ### Decoding by kind -/

/-- `A[2:0] = 0` says that the offset is a multiple of 8. -/
theorem lowBits_eq_zero_iff (a : Offset) : a.extractLsb' 0 3 = 0 ↔ a.toNat % 8 = 0 := by
  rw [← BitVec.toNat_inj, BitVec.extractLsb'_toNat, Nat.shiftRight_zero]
  rfl

theorem ifAligned_of_mod {a : Offset} (h : a.toNat % 8 = 0) (i : Instr) : ifAligned a i = .event i := by
  rw [ifAligned, if_pos ((lowBits_eq_zero_iff a).mpr h)]

theorem ifAligned_eq_event {a : Offset} {i j : Instr} : ifAligned a i = .event j ↔ a.toNat % 8 = 0 ∧ i = j := by
  rw [ifAligned, ← lowBits_eq_zero_iff]
  split <;> simp_all

theorem ifZero_eq_event {a : Offset} {i j : Instr} : ifZero a i = .event j ↔ a = 0 ∧ i = j := by
  rw [ifZero]
  split <;> simp_all

/-- A read word decodes by its offset. -/
theorem decode_read (a : Offset) (be : Lanes) (d : Word) (image : Image) :
    decode ⟨eventWord .busRead a, be, d, image⟩ = ifAligned a (busReadEvent a be) := by
  simp only [decode, kindOf_eventWord, offsetField_eventWord]

/-- A write word decodes by its offset. -/
theorem decode_write (a : Offset) (be : Lanes) (d : Word) (image : Image) :
    decode ⟨eventWord .busWrite a, be, d, image⟩ = ifAligned a (busWriteEvent a be d) := by
  simp only [decode, kindOf_eventWord, offsetField_eventWord]

/-- What a presented read word decodes to. -/
theorem decode_of_read {e : Event} {w : EventWord} (hw : e.word = w) (hk : kindOf (kindField w) = .busRead)
    (h8 : (offsetField w).toNat % 8 = 0) : decode e = .event (busReadEvent (offsetField w) e.be) := by
  simp only [decode, hw, hk, ifAligned_of_mod h8]

/-- What a presented write word decodes to. -/
theorem decode_of_write {e : Event} {w : EventWord} (hw : e.word = w) (hk : kindOf (kindField w) = .busWrite)
    (h8 : (offsetField w).toNat % 8 = 0) : decode e = .event (busWriteEvent (offsetField w) e.be e.data) := by
  simp only [decode, hw, hk, ifAligned_of_mod h8]

/-! ### The address map -/

theorem inRange_of_le {f n l : Nat} (h : f ≤ n ∧ n ≤ l) : (decide (f ≤ n) && decide (n ≤ l)) = true := by
  simp [h]

theorem not_inRange_of_lt {f n l : Nat} (h : n < f ∨ l < n) : (decide (f ≤ n) && decide (n ≤ l)) = false := by
  rw [Bool.and_eq_false_iff, decide_eq_false_iff_not, decide_eq_false_iff_not]
  omega

theorem eq_ite_of {α : Type} {c : Prop} [Decidable c] {x y z : α} (hy : c → x = y) (hz : ¬c → x = z) :
    x = if c then y else z := by
  by_cases h : c
  · rw [if_pos h, hy h]
  · rw [if_neg h, hz h]

/-- The block of an offset, by the upper ends of the ranges and the holes between them (R60, R61). -/
theorem blockAt_eq (a : Offset) :
    blockAt a =
      if a.toNat < 0x080000 then some .pci else
      if a.toNat < 0x100000 then some .vin1 else
      if a.toNat < 0x180000 then some .vin2 else
      if a.toNat < 0x200000 then some .vout else
      if a.toNat < 0x280000 then some .enet else
      if a.toNat < 0x300000 then some .audio else
      if a.toNat < 0x310000 then some .isa else
      if a.toNat < 0x320000 then some .kbdms else
      if a.toNat < 0x330000 then some .i2c else
      if a.toNat < 0x340000 then some .ustMsc else
      if a.toNat < 0x380000 then none else
      if a.toNat < 0x3A0000 then some .isaExt else
      if a.toNat < 0x3A8000 then some .rtc else none := by
  have hlt := a.isLt
  iterate 13
    refine eq_ite_of (fun _ => ?_) (fun _ => ?_)
    · simp (disch := omega) only [blockAt, addressMap, List.find?_cons, List.find?_nil, BitVec.le_def,
        BitVec.reduceToNat, inRange_of_le, not_inRange_of_lt, Option.map_some, Option.map_none]
  simp (disch := omega) only [blockAt, addressMap, List.find?_cons, List.find?_nil, BitVec.le_def,
    BitVec.reduceToNat, not_inRange_of_lt, Option.map_none]

/-- The fourteen intervals of the window, each with its block. -/
theorem blockAt_cases (a : Offset) :
    (blockAt a = some .pci ∧ a.toNat < 0x080000) ∨
    (blockAt a = some .vin1 ∧ 0x080000 ≤ a.toNat ∧ a.toNat < 0x100000) ∨
    (blockAt a = some .vin2 ∧ 0x100000 ≤ a.toNat ∧ a.toNat < 0x180000) ∨
    (blockAt a = some .vout ∧ 0x180000 ≤ a.toNat ∧ a.toNat < 0x200000) ∨
    (blockAt a = some .enet ∧ 0x200000 ≤ a.toNat ∧ a.toNat < 0x280000) ∨
    (blockAt a = some .audio ∧ 0x280000 ≤ a.toNat ∧ a.toNat < 0x300000) ∨
    (blockAt a = some .isa ∧ 0x300000 ≤ a.toNat ∧ a.toNat < 0x310000) ∨
    (blockAt a = some .kbdms ∧ 0x310000 ≤ a.toNat ∧ a.toNat < 0x320000) ∨
    (blockAt a = some .i2c ∧ 0x320000 ≤ a.toNat ∧ a.toNat < 0x330000) ∨
    (blockAt a = some .ustMsc ∧ 0x330000 ≤ a.toNat ∧ a.toNat < 0x340000) ∨
    (blockAt a = none ∧ 0x340000 ≤ a.toNat ∧ a.toNat < 0x380000) ∨
    (blockAt a = some .isaExt ∧ 0x380000 ≤ a.toNat ∧ a.toNat < 0x3A0000) ∨
    (blockAt a = some .rtc ∧ 0x3A0000 ≤ a.toNat ∧ a.toNat < 0x3A8000) ∨
    (blockAt a = none ∧ 0x3A8000 ≤ a.toNat ∧ a.toNat < 0x400000) := by
  have hlt := a.isLt
  rw [blockAt_eq]
  by_cases h0 : a.toNat < 0x080000
  · rw [if_pos h0]
    exact .inl ⟨rfl, h0⟩
  rw [if_neg h0]
  by_cases h1 : a.toNat < 0x100000
  · rw [if_pos h1]
    exact .inr (.inl ⟨rfl, Nat.le_of_not_lt h0, h1⟩)
  rw [if_neg h1]
  by_cases h2 : a.toNat < 0x180000
  · rw [if_pos h2]
    exact .inr (.inr (.inl ⟨rfl, Nat.le_of_not_lt h1, h2⟩))
  rw [if_neg h2]
  by_cases h3 : a.toNat < 0x200000
  · rw [if_pos h3]
    exact .inr (.inr (.inr (.inl ⟨rfl, Nat.le_of_not_lt h2, h3⟩)))
  rw [if_neg h3]
  by_cases h4 : a.toNat < 0x280000
  · rw [if_pos h4]
    exact .inr (.inr (.inr (.inr (.inl ⟨rfl, Nat.le_of_not_lt h3, h4⟩))))
  rw [if_neg h4]
  by_cases h5 : a.toNat < 0x300000
  · rw [if_pos h5]
    exact .inr (.inr (.inr (.inr (.inr (.inl ⟨rfl, Nat.le_of_not_lt h4, h5⟩)))))
  rw [if_neg h5]
  by_cases h6 : a.toNat < 0x310000
  · rw [if_pos h6]
    exact .inr (.inr (.inr (.inr (.inr (.inr (.inl ⟨rfl, Nat.le_of_not_lt h5, h6⟩))))))
  rw [if_neg h6]
  by_cases h7 : a.toNat < 0x320000
  · rw [if_pos h7]
    exact .inr (.inr (.inr (.inr (.inr (.inr (.inr (.inl ⟨rfl, Nat.le_of_not_lt h6, h7⟩)))))))
  rw [if_neg h7]
  by_cases h8 : a.toNat < 0x330000
  · rw [if_pos h8]
    exact .inr (.inr (.inr (.inr (.inr (.inr (.inr (.inr (.inl ⟨rfl, Nat.le_of_not_lt h7, h8⟩))))))))
  rw [if_neg h8]
  by_cases h9 : a.toNat < 0x340000
  · rw [if_pos h9]
    exact .inr (.inr (.inr (.inr (.inr (.inr (.inr (.inr (.inr (.inl ⟨rfl, Nat.le_of_not_lt h8, h9⟩)))))))))
  rw [if_neg h9]
  by_cases h10 : a.toNat < 0x380000
  · rw [if_pos h10]
    exact .inr (.inr (.inr (.inr (.inr (.inr (.inr (.inr (.inr (.inr (.inl ⟨rfl, Nat.le_of_not_lt h9, h10⟩))))))))))
  rw [if_neg h10]
  by_cases h11 : a.toNat < 0x3A0000
  · rw [if_pos h11]
    exact .inr (.inr (.inr (.inr (.inr (.inr (.inr (.inr (.inr (.inr (.inr (.inl ⟨rfl, Nat.le_of_not_lt h10, h11⟩)))))))))))
  rw [if_neg h11]
  by_cases h12 : a.toNat < 0x3A8000
  · rw [if_pos h12]
    exact .inr (.inr (.inr (.inr (.inr (.inr (.inr (.inr (.inr (.inr (.inr (.inr (.inl ⟨rfl, Nat.le_of_not_lt h11, h12⟩))))))))))))
  rw [if_neg h12]
  exact .inr (.inr (.inr (.inr (.inr (.inr (.inr (.inr (.inr (.inr (.inr (.inr (.inr ⟨rfl, Nat.le_of_not_lt h12, hlt⟩))))))))))))

/-! ### Masks -/

/-- A mask that keeps the bits from `k` up clears the bits below. -/
theorem and_highMask_toNat (w : EventWord) (k : Nat) :
    (w &&& (BitVec.allOnes 25 <<< k)).toNat = w.toNat / 2 ^ k * 2 ^ k := by
  have h : w &&& (BitVec.allOnes 25 <<< k) = (w >>> k) <<< k := by
    apply BitVec.eq_of_getLsbD_eq
    intro i hi
    simp only [BitVec.getLsbD_and, BitVec.getLsbD_shiftLeft, BitVec.getLsbD_allOnes, BitVec.getLsbD_ushiftRight]
    by_cases hk : i < k
    · simp [hk]
    · have h1 : i - k < 25 := by omega
      have h2 : k + (i - k) = i := by omega
      simp [hk, hi, h1, h2]
  have hle : w.toNat / 2 ^ k * 2 ^ k ≤ w.toNat := Nat.div_mul_le_self _ _
  rw [h, BitVec.toNat_shiftLeft, BitVec.toNat_ushiftRight, Nat.shiftRight_eq_div_pow, Nat.shiftLeft_eq,
    Nat.mod_eq_of_lt (by have := w.isLt; omega)]

end Sys2Proof
end

