-- ==== Sys2Proof/Laws/State.lean ====
section
/-! SUPPORT. What each update of the state leaves in each field, and what each update of the registers leaves in each
register; all by rfl. -/

namespace Sys2Proof.Machine

open Sys2Proof

/-! ### `driveData` -/

@[simp] theorem driveData_regs (v : Word) (s : State) : (driveData v s).regs = s.regs := rfl
@[simp] theorem driveData_running (v : Word) (s : State) : (driveData v s).running = s.running := rfl
@[simp] theorem driveData_timeline (v : Word) (s : State) : (driveData v s).timeline = s.timeline := rfl
@[simp] theorem driveData_rdata (v : Word) (s : State) : (driveData v s).rdata = some v := rfl
@[simp] theorem driveData_saved (v : Word) (s : State) : (driveData v s).saved = s.saved := rfl
@[simp] theorem driveData_diag (v : Word) (s : State) : (driveData v s).diag = s.diag := rfl
@[simp] theorem driveData_rtcCalls (v : Word) (s : State) : (driveData v s).rtcCalls = s.rtcCalls := rfl
@[simp] theorem driveData_draws (v : Word) (s : State) : (driveData v s).draws = s.draws := rfl
@[simp] theorem driveData_choices (v : Word) (s : State) : (driveData v s).choices = s.choices := rfl

/-! ### `logRecord` -/

@[simp] theorem logRecord_regs (b : Block) (dir : Direction) (a : Offset) (d : Word) (be : Lanes) (s : State) : (logRecord b dir a d be s).regs = s.regs := rfl
@[simp] theorem logRecord_running (b : Block) (dir : Direction) (a : Offset) (d : Word) (be : Lanes) (s : State) : (logRecord b dir a d be s).running = s.running := rfl
@[simp] theorem logRecord_timeline (b : Block) (dir : Direction) (a : Offset) (d : Word) (be : Lanes) (s : State) : (logRecord b dir a d be s).timeline = s.timeline := rfl
@[simp] theorem logRecord_rdata (b : Block) (dir : Direction) (a : Offset) (d : Word) (be : Lanes) (s : State) : (logRecord b dir a d be s).rdata = s.rdata := rfl
@[simp] theorem logRecord_saved (b : Block) (dir : Direction) (a : Offset) (d : Word) (be : Lanes) (s : State) : (logRecord b dir a d be s).saved = s.saved := rfl
@[simp] theorem logRecord_diag (b : Block) (dir : Direction) (a : Offset) (d : Word) (be : Lanes) (s : State) : (logRecord b dir a d be s).diag = s.diag ++ [⟨b, dir, absAddr a, d, be⟩] := rfl
@[simp] theorem logRecord_rtcCalls (b : Block) (dir : Direction) (a : Offset) (d : Word) (be : Lanes) (s : State) : (logRecord b dir a d be s).rtcCalls = s.rtcCalls := rfl
@[simp] theorem logRecord_draws (b : Block) (dir : Direction) (a : Offset) (d : Word) (be : Lanes) (s : State) : (logRecord b dir a d be s).draws = s.draws := rfl
@[simp] theorem logRecord_choices (b : Block) (dir : Direction) (a : Offset) (d : Word) (be : Lanes) (s : State) : (logRecord b dir a d be s).choices = s.choices := rfl

/-! ### `withRegs` -/

@[simp] theorem withRegs_regs (r : Image) (s : State) : (withRegs r s).regs = r := rfl
@[simp] theorem withRegs_running (r : Image) (s : State) : (withRegs r s).running = s.running := rfl
@[simp] theorem withRegs_timeline (r : Image) (s : State) : (withRegs r s).timeline = s.timeline := rfl
@[simp] theorem withRegs_rdata (r : Image) (s : State) : (withRegs r s).rdata = s.rdata := rfl
@[simp] theorem withRegs_saved (r : Image) (s : State) : (withRegs r s).saved = s.saved := rfl
@[simp] theorem withRegs_diag (r : Image) (s : State) : (withRegs r s).diag = s.diag := rfl
@[simp] theorem withRegs_rtcCalls (r : Image) (s : State) : (withRegs r s).rtcCalls = s.rtcCalls := rfl
@[simp] theorem withRegs_draws (r : Image) (s : State) : (withRegs r s).draws = s.draws := rfl
@[simp] theorem withRegs_choices (r : Image) (s : State) : (withRegs r s).choices = s.choices := rfl

/-! ### `noOpRead` -/

@[simp] theorem noOpRead_regs (b : Block) (a : Offset) (be : Lanes) (s : State) : (noOpRead b a be s).regs = s.regs := rfl
@[simp] theorem noOpRead_running (b : Block) (a : Offset) (be : Lanes) (s : State) : (noOpRead b a be s).running = s.running := rfl
@[simp] theorem noOpRead_timeline (b : Block) (a : Offset) (be : Lanes) (s : State) : (noOpRead b a be s).timeline = s.timeline := rfl
@[simp] theorem noOpRead_rdata (b : Block) (a : Offset) (be : Lanes) (s : State) : (noOpRead b a be s).rdata = some 0 := rfl
@[simp] theorem noOpRead_saved (b : Block) (a : Offset) (be : Lanes) (s : State) : (noOpRead b a be s).saved = s.saved := rfl
@[simp] theorem noOpRead_diag (b : Block) (a : Offset) (be : Lanes) (s : State) : (noOpRead b a be s).diag = s.diag ++ [⟨b, .read, absAddr a, 0, be⟩] := rfl
@[simp] theorem noOpRead_rtcCalls (b : Block) (a : Offset) (be : Lanes) (s : State) : (noOpRead b a be s).rtcCalls = s.rtcCalls := rfl
@[simp] theorem noOpRead_draws (b : Block) (a : Offset) (be : Lanes) (s : State) : (noOpRead b a be s).draws = s.draws := rfl
@[simp] theorem noOpRead_choices (b : Block) (a : Offset) (be : Lanes) (s : State) : (noOpRead b a be s).choices = s.choices := rfl

/-! ### `noOpWrite` -/

@[simp] theorem noOpWrite_regs (b : Block) (a : Offset) (be : Lanes) (d : Word) (s : State) : (noOpWrite b a be d s).regs = s.regs := rfl
@[simp] theorem noOpWrite_running (b : Block) (a : Offset) (be : Lanes) (d : Word) (s : State) : (noOpWrite b a be d s).running = s.running := rfl
@[simp] theorem noOpWrite_timeline (b : Block) (a : Offset) (be : Lanes) (d : Word) (s : State) : (noOpWrite b a be d s).timeline = s.timeline := rfl
@[simp] theorem noOpWrite_rdata (b : Block) (a : Offset) (be : Lanes) (d : Word) (s : State) : (noOpWrite b a be d s).rdata = s.rdata := rfl
@[simp] theorem noOpWrite_saved (b : Block) (a : Offset) (be : Lanes) (d : Word) (s : State) : (noOpWrite b a be d s).saved = s.saved := rfl
@[simp] theorem noOpWrite_diag (b : Block) (a : Offset) (be : Lanes) (d : Word) (s : State) : (noOpWrite b a be d s).diag = s.diag ++ [⟨b, .write, absAddr a, d, be⟩] := rfl
@[simp] theorem noOpWrite_rtcCalls (b : Block) (a : Offset) (be : Lanes) (d : Word) (s : State) : (noOpWrite b a be d s).rtcCalls = s.rtcCalls := rfl
@[simp] theorem noOpWrite_draws (b : Block) (a : Offset) (be : Lanes) (d : Word) (s : State) : (noOpWrite b a be d s).draws = s.draws := rfl
@[simp] theorem noOpWrite_choices (b : Block) (a : Offset) (be : Lanes) (d : Word) (s : State) : (noOpWrite b a be d s).choices = s.choices := rfl

/-! ### `readHole` -/

@[simp] theorem readHole_regs (s : State) : (readHole s).regs = s.regs := rfl
@[simp] theorem readHole_running (s : State) : (readHole s).running = s.running := rfl
@[simp] theorem readHole_timeline (s : State) : (readHole s).timeline = s.timeline := rfl
@[simp] theorem readHole_rdata (s : State) : (readHole s).rdata = some (Config.draw s.draws) := rfl
@[simp] theorem readHole_saved (s : State) : (readHole s).saved = s.saved := rfl
@[simp] theorem readHole_diag (s : State) : (readHole s).diag = s.diag := rfl
@[simp] theorem readHole_rtcCalls (s : State) : (readHole s).rtcCalls = s.rtcCalls := rfl
@[simp] theorem readHole_draws (s : State) : (readHole s).draws = s.draws + 1 := rfl
@[simp] theorem readHole_choices (s : State) : (readHole s).choices = s.choices := rfl

/-! ### `callRtcRead` -/

@[simp] theorem callRtcRead_regs (idx : RtcIndex) (s : State) : (callRtcRead idx s).regs = s.regs := rfl
@[simp] theorem callRtcRead_running (idx : RtcIndex) (s : State) : (callRtcRead idx s).running = s.running := rfl
@[simp] theorem callRtcRead_timeline (idx : RtcIndex) (s : State) : (callRtcRead idx s).timeline = s.timeline := rfl
@[simp] theorem callRtcRead_rdata (idx : RtcIndex) (s : State) : (callRtcRead idx s).rdata = some (Config.rtcAnswer s.rtcCalls idx) := rfl
@[simp] theorem callRtcRead_saved (idx : RtcIndex) (s : State) : (callRtcRead idx s).saved = s.saved := rfl
@[simp] theorem callRtcRead_diag (idx : RtcIndex) (s : State) : (callRtcRead idx s).diag = s.diag := rfl
@[simp] theorem callRtcRead_rtcCalls (idx : RtcIndex) (s : State) : (callRtcRead idx s).rtcCalls = s.rtcCalls ++ [.read idx] := rfl
@[simp] theorem callRtcRead_draws (idx : RtcIndex) (s : State) : (callRtcRead idx s).draws = s.draws := rfl
@[simp] theorem callRtcRead_choices (idx : RtcIndex) (s : State) : (callRtcRead idx s).choices = s.choices := rfl

/-! ### `callRtcWrite` -/

@[simp] theorem callRtcWrite_regs (idx : RtcIndex) (d8 : RtcDatum) (s : State) : (callRtcWrite idx d8 s).regs = s.regs := rfl
@[simp] theorem callRtcWrite_running (idx : RtcIndex) (d8 : RtcDatum) (s : State) : (callRtcWrite idx d8 s).running = s.running := rfl
@[simp] theorem callRtcWrite_timeline (idx : RtcIndex) (d8 : RtcDatum) (s : State) : (callRtcWrite idx d8 s).timeline = s.timeline := rfl
@[simp] theorem callRtcWrite_rdata (idx : RtcIndex) (d8 : RtcDatum) (s : State) : (callRtcWrite idx d8 s).rdata = s.rdata := rfl
@[simp] theorem callRtcWrite_saved (idx : RtcIndex) (d8 : RtcDatum) (s : State) : (callRtcWrite idx d8 s).saved = s.saved := rfl
@[simp] theorem callRtcWrite_diag (idx : RtcIndex) (d8 : RtcDatum) (s : State) : (callRtcWrite idx d8 s).diag = s.diag := rfl
@[simp] theorem callRtcWrite_rtcCalls (idx : RtcIndex) (d8 : RtcDatum) (s : State) : (callRtcWrite idx d8 s).rtcCalls = s.rtcCalls ++ [.write idx d8] := rfl
@[simp] theorem callRtcWrite_draws (idx : RtcIndex) (d8 : RtcDatum) (s : State) : (callRtcWrite idx d8 s).draws = s.draws := rfl
@[simp] theorem callRtcWrite_choices (idx : RtcIndex) (d8 : RtcDatum) (s : State) : (callRtcWrite idx d8 s).choices = s.choices := rfl

/-! ### `resetDevice` -/

@[simp] theorem resetDevice_regs (s : State) : (resetDevice s).regs = Image.zero := rfl
@[simp] theorem resetDevice_running (s : State) : (resetDevice s).running = true := rfl
@[simp] theorem resetDevice_timeline (s : State) : (resetDevice s).timeline = s.timeline := rfl
@[simp] theorem resetDevice_rdata (s : State) : (resetDevice s).rdata = s.rdata := rfl
@[simp] theorem resetDevice_saved (s : State) : (resetDevice s).saved = s.saved := rfl
@[simp] theorem resetDevice_diag (s : State) : (resetDevice s).diag = s.diag := rfl
@[simp] theorem resetDevice_rtcCalls (s : State) : (resetDevice s).rtcCalls = s.rtcCalls := rfl
@[simp] theorem resetDevice_draws (s : State) : (resetDevice s).draws = s.draws := rfl
@[simp] theorem resetDevice_choices (s : State) : (resetDevice s).choices = s.choices := rfl

/-! ### `stopDevice` -/

@[simp] theorem stopDevice_regs (s : State) : (stopDevice s).regs = s.regs := rfl
@[simp] theorem stopDevice_running (s : State) : (stopDevice s).running = false := rfl
@[simp] theorem stopDevice_timeline (s : State) : (stopDevice s).timeline = s.timeline := rfl
@[simp] theorem stopDevice_rdata (s : State) : (stopDevice s).rdata = s.rdata := rfl
@[simp] theorem stopDevice_saved (s : State) : (stopDevice s).saved = s.saved := rfl
@[simp] theorem stopDevice_diag (s : State) : (stopDevice s).diag = s.diag := rfl
@[simp] theorem stopDevice_rtcCalls (s : State) : (stopDevice s).rtcCalls = s.rtcCalls := rfl
@[simp] theorem stopDevice_draws (s : State) : (stopDevice s).draws = s.draws := rfl
@[simp] theorem stopDevice_choices (s : State) : (stopDevice s).choices = s.choices := rfl

/-! ### `saveImage` -/

@[simp] theorem saveImage_regs (s : State) : (saveImage s).regs = s.regs := rfl
@[simp] theorem saveImage_running (s : State) : (saveImage s).running = s.running := rfl
@[simp] theorem saveImage_timeline (s : State) : (saveImage s).timeline = s.timeline := rfl
@[simp] theorem saveImage_rdata (s : State) : (saveImage s).rdata = s.rdata := rfl
@[simp] theorem saveImage_saved (s : State) : (saveImage s).saved = some s.regs := rfl
@[simp] theorem saveImage_diag (s : State) : (saveImage s).diag = s.diag := rfl
@[simp] theorem saveImage_rtcCalls (s : State) : (saveImage s).rtcCalls = s.rtcCalls := rfl
@[simp] theorem saveImage_draws (s : State) : (saveImage s).draws = s.draws := rfl
@[simp] theorem saveImage_choices (s : State) : (saveImage s).choices = s.choices := rfl

/-! ### `presentEvent` -/

@[simp] theorem presentEvent_regs (e : Event) (s : State) : (presentEvent e s).regs = s.regs := rfl
@[simp] theorem presentEvent_running (e : Event) (s : State) : (presentEvent e s).running = s.running := rfl
@[simp] theorem presentEvent_timeline (e : Event) (s : State) : (presentEvent e s).timeline = e :: s.timeline := rfl
@[simp] theorem presentEvent_rdata (e : Event) (s : State) : (presentEvent e s).rdata = s.rdata := rfl
@[simp] theorem presentEvent_saved (e : Event) (s : State) : (presentEvent e s).saved = s.saved := rfl
@[simp] theorem presentEvent_diag (e : Event) (s : State) : (presentEvent e s).diag = s.diag := rfl
@[simp] theorem presentEvent_rtcCalls (e : Event) (s : State) : (presentEvent e s).rtcCalls = s.rtcCalls := rfl
@[simp] theorem presentEvent_draws (e : Event) (s : State) : (presentEvent e s).draws = s.draws := rfl
@[simp] theorem presentEvent_choices (e : Event) (s : State) : (presentEvent e s).choices = s.choices := rfl

/-! ### `compareEvaluate` -/

@[simp] theorem compareEvaluate_ringbase (r : Image) : (compareEvaluate r).ringbase = r.ringbase := rfl
@[simp] theorem compareEvaluate_flashNicCtrl (r : Image) : (compareEvaluate r).flashNicCtrl = r.flashNicCtrl := rfl
@[simp] theorem compareEvaluate_intStatus (r : Image) : (compareEvaluate r).intStatus = statusAfterCompare c1Bit c2Bit c3Bit r := rfl
@[simp] theorem compareEvaluate_intMask (r : Image) : (compareEvaluate r).intMask = r.intMask := rfl
@[simp] theorem compareEvaluate_msc (r : Image) : (compareEvaluate r).msc = r.msc := rfl
@[simp] theorem compareEvaluate_ust (r : Image) : (compareEvaluate r).ust = r.ust := rfl
@[simp] theorem compareEvaluate_ustMsc (r : Image) : (compareEvaluate r).ustMsc = r.ustMsc := rfl
@[simp] theorem compareEvaluate_compare1 (r : Image) : (compareEvaluate r).compare1 = r.compare1 := rfl
@[simp] theorem compareEvaluate_compare2 (r : Image) : (compareEvaluate r).compare2 = r.compare2 := rfl
@[simp] theorem compareEvaluate_compare3 (r : Image) : (compareEvaluate r).compare3 = r.compare3 := rfl
@[simp] theorem compareEvaluate_ainMscUst (r : Image) : (compareEvaluate r).ainMscUst = r.ainMscUst := rfl
@[simp] theorem compareEvaluate_aout1MscUst (r : Image) : (compareEvaluate r).aout1MscUst = r.aout1MscUst := rfl
@[simp] theorem compareEvaluate_aout2MscUst (r : Image) : (compareEvaluate r).aout2MscUst = r.aout2MscUst := rfl
@[simp] theorem compareEvaluate_vin1MscUst (r : Image) : (compareEvaluate r).vin1MscUst = r.vin1MscUst := rfl
@[simp] theorem compareEvaluate_vin2MscUst (r : Image) : (compareEvaluate r).vin2MscUst = r.vin2MscUst := rfl
@[simp] theorem compareEvaluate_voutMscUst (r : Image) : (compareEvaluate r).voutMscUst = r.voutMscUst := rfl

/-! ### `countFast` -/

@[simp] theorem countFast_ringbase (r : Image) : (countFast r).ringbase = r.ringbase := rfl
@[simp] theorem countFast_flashNicCtrl (r : Image) : (countFast r).flashNicCtrl = r.flashNicCtrl := rfl
@[simp] theorem countFast_intStatus (r : Image) : (countFast r).intStatus = r.intStatus := rfl
@[simp] theorem countFast_intMask (r : Image) : (countFast r).intMask = r.intMask := rfl
@[simp] theorem countFast_msc (r : Image) : (countFast r).msc = r.msc := rfl
@[simp] theorem countFast_ust (r : Image) : (countFast r).ust = r.ust + 1 := rfl
@[simp] theorem countFast_ustMsc (r : Image) : (countFast r).ustMsc = compose (r.ust + 1) (mscHalf r.ustMsc) := rfl
@[simp] theorem countFast_compare1 (r : Image) : (countFast r).compare1 = r.compare1 := rfl
@[simp] theorem countFast_compare2 (r : Image) : (countFast r).compare2 = r.compare2 := rfl
@[simp] theorem countFast_compare3 (r : Image) : (countFast r).compare3 = r.compare3 := rfl
@[simp] theorem countFast_ainMscUst (r : Image) : (countFast r).ainMscUst = r.ainMscUst := rfl
@[simp] theorem countFast_aout1MscUst (r : Image) : (countFast r).aout1MscUst = r.aout1MscUst := rfl
@[simp] theorem countFast_aout2MscUst (r : Image) : (countFast r).aout2MscUst = r.aout2MscUst := rfl
@[simp] theorem countFast_vin1MscUst (r : Image) : (countFast r).vin1MscUst = r.vin1MscUst := rfl
@[simp] theorem countFast_vin2MscUst (r : Image) : (countFast r).vin2MscUst = r.vin2MscUst := rfl
@[simp] theorem countFast_voutMscUst (r : Image) : (countFast r).voutMscUst = r.voutMscUst := rfl

/-! ### `countSlow` -/

@[simp] theorem countSlow_ringbase (r : Image) : (countSlow r).ringbase = r.ringbase := rfl
@[simp] theorem countSlow_flashNicCtrl (r : Image) : (countSlow r).flashNicCtrl = r.flashNicCtrl := rfl
@[simp] theorem countSlow_intStatus (r : Image) : (countSlow r).intStatus = r.intStatus := rfl
@[simp] theorem countSlow_intMask (r : Image) : (countSlow r).intMask = r.intMask := rfl
@[simp] theorem countSlow_msc (r : Image) : (countSlow r).msc = r.msc + 1 := rfl
@[simp] theorem countSlow_ust (r : Image) : (countSlow r).ust = r.ust := rfl
@[simp] theorem countSlow_ustMsc (r : Image) : (countSlow r).ustMsc = compose (ustHalf r.ustMsc) (r.msc + 1) := rfl
@[simp] theorem countSlow_compare1 (r : Image) : (countSlow r).compare1 = r.compare1 := rfl
@[simp] theorem countSlow_compare2 (r : Image) : (countSlow r).compare2 = r.compare2 := rfl
@[simp] theorem countSlow_compare3 (r : Image) : (countSlow r).compare3 = r.compare3 := rfl
@[simp] theorem countSlow_ainMscUst (r : Image) : (countSlow r).ainMscUst = r.ainMscUst := rfl
@[simp] theorem countSlow_aout1MscUst (r : Image) : (countSlow r).aout1MscUst = r.aout1MscUst := rfl
@[simp] theorem countSlow_aout2MscUst (r : Image) : (countSlow r).aout2MscUst = r.aout2MscUst := rfl
@[simp] theorem countSlow_vin1MscUst (r : Image) : (countSlow r).vin1MscUst = r.vin1MscUst := rfl
@[simp] theorem countSlow_vin2MscUst (r : Image) : (countSlow r).vin2MscUst = r.vin2MscUst := rfl
@[simp] theorem countSlow_voutMscUst (r : Image) : (countSlow r).voutMscUst = r.voutMscUst := rfl

/-! ### `fastTick` -/

@[simp] theorem fastTick_ringbase (r : Image) : (fastTick r).ringbase = r.ringbase := rfl
@[simp] theorem fastTick_flashNicCtrl (r : Image) : (fastTick r).flashNicCtrl = r.flashNicCtrl := rfl
@[simp] theorem fastTick_intStatus (r : Image) : (fastTick r).intStatus = statusAfterCompare c1Bit c2Bit c3Bit (countFast r) := rfl
@[simp] theorem fastTick_intMask (r : Image) : (fastTick r).intMask = r.intMask := rfl
@[simp] theorem fastTick_msc (r : Image) : (fastTick r).msc = r.msc := rfl
@[simp] theorem fastTick_ust (r : Image) : (fastTick r).ust = r.ust + 1 := rfl
@[simp] theorem fastTick_ustMsc (r : Image) : (fastTick r).ustMsc = compose (r.ust + 1) (mscHalf r.ustMsc) := rfl
@[simp] theorem fastTick_compare1 (r : Image) : (fastTick r).compare1 = r.compare1 := rfl
@[simp] theorem fastTick_compare2 (r : Image) : (fastTick r).compare2 = r.compare2 := rfl
@[simp] theorem fastTick_compare3 (r : Image) : (fastTick r).compare3 = r.compare3 := rfl
@[simp] theorem fastTick_ainMscUst (r : Image) : (fastTick r).ainMscUst = r.ainMscUst := rfl
@[simp] theorem fastTick_aout1MscUst (r : Image) : (fastTick r).aout1MscUst = r.aout1MscUst := rfl
@[simp] theorem fastTick_aout2MscUst (r : Image) : (fastTick r).aout2MscUst = r.aout2MscUst := rfl
@[simp] theorem fastTick_vin1MscUst (r : Image) : (fastTick r).vin1MscUst = r.vin1MscUst := rfl
@[simp] theorem fastTick_vin2MscUst (r : Image) : (fastTick r).vin2MscUst = r.vin2MscUst := rfl
@[simp] theorem fastTick_voutMscUst (r : Image) : (fastTick r).voutMscUst = r.voutMscUst := rfl

/-! ### `slowTick` -/

@[simp] theorem slowTick_ringbase (r : Image) : (slowTick r).ringbase = r.ringbase := rfl
@[simp] theorem slowTick_flashNicCtrl (r : Image) : (slowTick r).flashNicCtrl = r.flashNicCtrl := rfl
@[simp] theorem slowTick_intStatus (r : Image) : (slowTick r).intStatus = statusAfterCompare c1Bit c2Bit c3Bit (countSlow r) := rfl
@[simp] theorem slowTick_intMask (r : Image) : (slowTick r).intMask = r.intMask := rfl
@[simp] theorem slowTick_msc (r : Image) : (slowTick r).msc = r.msc + 1 := rfl
@[simp] theorem slowTick_ust (r : Image) : (slowTick r).ust = r.ust := rfl
@[simp] theorem slowTick_ustMsc (r : Image) : (slowTick r).ustMsc = compose (ustHalf r.ustMsc) (r.msc + 1) := rfl
@[simp] theorem slowTick_compare1 (r : Image) : (slowTick r).compare1 = r.compare1 := rfl
@[simp] theorem slowTick_compare2 (r : Image) : (slowTick r).compare2 = r.compare2 := rfl
@[simp] theorem slowTick_compare3 (r : Image) : (slowTick r).compare3 = r.compare3 := rfl
@[simp] theorem slowTick_ainMscUst (r : Image) : (slowTick r).ainMscUst = r.ainMscUst := rfl
@[simp] theorem slowTick_aout1MscUst (r : Image) : (slowTick r).aout1MscUst = r.aout1MscUst := rfl
@[simp] theorem slowTick_aout2MscUst (r : Image) : (slowTick r).aout2MscUst = r.aout2MscUst := rfl
@[simp] theorem slowTick_vin1MscUst (r : Image) : (slowTick r).vin1MscUst = r.vin1MscUst := rfl
@[simp] theorem slowTick_vin2MscUst (r : Image) : (slowTick r).vin2MscUst = r.vin2MscUst := rfl
@[simp] theorem slowTick_voutMscUst (r : Image) : (slowTick r).voutMscUst = r.voutMscUst := rfl

/-! ### `Image.zero` -/

@[simp] theorem zero_ringbase : Image.zero.ringbase = 0 := rfl
@[simp] theorem zero_flashNicCtrl : Image.zero.flashNicCtrl = 0 := rfl
@[simp] theorem zero_intStatus : Image.zero.intStatus = 0 := rfl
@[simp] theorem zero_intMask : Image.zero.intMask = 0 := rfl
@[simp] theorem zero_msc : Image.zero.msc = 0 := rfl
@[simp] theorem zero_ust : Image.zero.ust = 0 := rfl
@[simp] theorem zero_ustMsc : Image.zero.ustMsc = 0 := rfl
@[simp] theorem zero_compare1 : Image.zero.compare1 = 0 := rfl
@[simp] theorem zero_compare2 : Image.zero.compare2 = 0 := rfl
@[simp] theorem zero_compare3 : Image.zero.compare3 = 0 := rfl
@[simp] theorem zero_ainMscUst : Image.zero.ainMscUst = 0 := rfl
@[simp] theorem zero_aout1MscUst : Image.zero.aout1MscUst = 0 := rfl
@[simp] theorem zero_aout2MscUst : Image.zero.aout2MscUst = 0 := rfl
@[simp] theorem zero_vin1MscUst : Image.zero.vin1MscUst = 0 := rfl
@[simp] theorem zero_vin2MscUst : Image.zero.vin2MscUst = 0 := rfl
@[simp] theorem zero_voutMscUst : Image.zero.voutMscUst = 0 := rfl

end Sys2Proof.Machine
end

