-- ==== Sys2Proof/Laws/Flags.lean ====
section
/-! SUPPORT. The composite and its halves; the bit numbers; what compare evaluation does to each status bit. -/

namespace Sys2Proof.Machine

open Sys2Proof

/-! ### The composite -/

/-- Bit `i` of two halves side by side. -/
theorem append_getLsbD (u m : Half) (i : Nat) :
    BitVec.getLsbD (u ++ m : Word) i = if i < 32 then m.getLsbD i else u.getLsbD (i - 32) := by
  have h := BitVec.getLsbD_append (x := u) (y := m) (i := i)
  split <;> simp_all

theorem compose_eq_append (u m : Half) : compose u m = u ++ m := by
  apply BitVec.eq_of_getLsbD_eq
  intro i hi
  rw [append_getLsbD, compose, BitVec.getLsbD_or, BitVec.getLsbD_shiftLeft, BitVec.getLsbD_setWidth,
    BitVec.getLsbD_setWidth]
  by_cases h : i < 32
  · simp [h, hi]
  · have hm : m.getLsbD i = false := BitVec.getLsbD_of_ge m i (by omega)
    have : i - 32 < 64 := by omega
    simp [h, hi, hm, this]

@[simp] theorem ustHalf_compose (u m : Half) : ustHalf (compose u m) = u := by
  apply BitVec.eq_of_getLsbD_eq
  intro i hi
  rw [compose_eq_append, ustHalf, BitVec.getLsbD_extractLsb', append_getLsbD]
  simp [hi]

@[simp] theorem mscHalf_compose (u m : Half) : mscHalf (compose u m) = m := by
  apply BitVec.eq_of_getLsbD_eq
  intro i hi
  rw [compose_eq_append, mscHalf, BitVec.getLsbD_extractLsb', append_getLsbD]
  simp [hi]

/-- Every 64-bit value is the composite of its halves. -/
theorem compose_halves (v : Word) : compose (ustHalf v) (mscHalf v) = v := by
  apply BitVec.eq_of_getLsbD_eq
  intro i hi
  rw [compose_eq_append, append_getLsbD, ustHalf, mscHalf]
  by_cases h : i < 32
  · simp [h]
  · have h1 : i - 32 < 32 := by omega
    have h2 : 32 + (i - 32) = i := by omega
    simp [h, h1, h2]

theorem compose_inj {u m u' m' : Half} : compose u m = compose u' m' ↔ u = u' ∧ m = m' := by
  constructor
  · intro h
    exact ⟨by simpa using congrArg ustHalf h, by simpa using congrArg mscHalf h⟩
  · rintro ⟨rfl, rfl⟩
    rfl

/-! ### The bit numbers -/

theorem c1Bit_lt : c1Bit < 64 := (Config.statusBitOrder 0).isLt

theorem c2Bit_lt : c2Bit < 64 := (Config.statusBitOrder 1).isLt

theorem c3Bit_lt : c3Bit < 64 := (Config.statusBitOrder 2).isLt

theorem c1Bit_ne_c2Bit : c1Bit ≠ c2Bit := fun h =>
  absurd (Config.statusBitOrder.injective (Fin.ext h)) (by decide)

theorem c1Bit_ne_c3Bit : c1Bit ≠ c3Bit := fun h =>
  absurd (Config.statusBitOrder.injective (Fin.ext h)) (by decide)

theorem c2Bit_ne_c3Bit : c2Bit ≠ c3Bit := fun h =>
  absurd (Config.statusBitOrder.injective (Fin.ext h)) (by decide)

/-- Bit `k` of `1 << n`. -/
@[simp] theorem bitMask_getLsbD (n k : Nat) : (bitMask n).getLsbD k = (decide (k < 64) && decide (k = n)) := by
  rw [bitMask, BitVec.getLsbD_shiftLeft, BitVec.getLsbD_one, Bool.eq_iff_iff]
  simp only [Bool.and_eq_true, Bool.not_eq_true', decide_eq_true_eq, decide_eq_false_iff_not]
  omega

/-! ### The latch -/

/-- Bit `k` after one comparator: set if it was, or if this is the comparator's bit and it matches. -/
theorem latchOnMatch_getLsbD (v c : Word) (n : Nat) (st : Word) (k : Nat) :
    (latchOnMatch v c n st).getLsbD k = (st.getLsbD k || (decide (v = c) && decide (k < 64) && decide (k = n))) := by
  unfold latchOnMatch
  split <;> simp_all

/-- Bit `k` after compare evaluation, under any bit numbers. -/
theorem statusAfterCompare_getLsbD (n1 n2 n3 : Nat) (r : Image) (k : Nat) :
    (statusAfterCompare n1 n2 n3 r).getLsbD k =
      (r.intStatus.getLsbD k
        || (decide (r.ustMsc = r.compare1) && decide (k < 64) && decide (k = n1))
        || (decide (r.ustMsc = r.compare2) && decide (k < 64) && decide (k = n2))
        || (decide (r.ustMsc = r.compare3) && decide (k < 64) && decide (k = n3))) := by
  simp only [statusAfterCompare, latchOnMatch_getLsbD]

end Sys2Proof.Machine
end

