-- ==== Sys2Proof/Laws/Ops.lean ====
section
/-! SUPPORT. For each shared operation, everything it can do, said once. -/

namespace Sys2Proof.Machine

open Sys2Proof

/-! ### Outcomes of the shared operations -/

/-- A bus event of a running device is answered by the state its action gives. -/
theorem busAccess_of_running {s : State} (h : s.running = true) (act : State → State) :
    busAccess act s = .next (act s) := by
  simp [busAccess, h]

/-- A bus event of a stopped device is refused. -/
theorem busAccess_of_stopped {s : State} (h : s.running = false) (act : State → State) :
    busAccess act s = .refused .busAccessWhileStopped := by
  simp [busAccess, h]

/-- If a bus event answers a next state, the device runs and that state is its action's. -/
theorem busAccess_eq_next {s t : State} {act : State → State} :
    busAccess act s = .next t ↔ s.running = true ∧ t = act s := by
  cases h : s.running with
  | false => simp [busAccess, h]
  | true =>
    rw [busAccess_of_running h]
    constructor
    · rintro ⟨⟩
      exact ⟨rfl, rfl⟩
    · rintro ⟨-, rfl⟩
      rfl

/-- A register read drives the register, or is the diagnostic no-op. -/
theorem readRegister_cases (p : LanePolicy) (b : Block) (a : Offset) (be : Lanes) (v : Word) (s : State) :
    (laneOkUnder p be = true ∧ readRegister p b a be v s = driveData v s) ∨
    (laneOkUnder p be = false ∧ readRegister p b a be v s = noOpRead b a be s) := by
  unfold readRegister
  split <;> simp_all

/-- A register write replaces the registers, or is the diagnostic no-op. -/
theorem writeRegister_cases (p : LanePolicy) (b : Block) (a : Offset) (be : Lanes) (d : Word) (r : Image) (s : State) :
    (laneOkUnder p be = true ∧ writeRegister p b a be d r s = withRegs r s) ∨
    (laneOkUnder p be = false ∧ writeRegister p b a be d r s = noOpWrite b a be d s) := by
  unfold writeRegister
  split <;> simp_all

/-- A tick acts on the registers of a running device, and on nothing in a stopped one. -/
theorem tickIfRunning_cases (tick : Image → Image) (s : State) :
    (s.running = true ∧ tickIfRunning tick s = withRegs (tick s.regs) s) ∨
    (s.running = false ∧ tickIfRunning tick s = s) := by
  unfold tickIfRunning
  split <;> simp_all

/-! ### What an access of a register keeps -/

section

variable (p : LanePolicy) (b : Block) (a : Offset) (be : Lanes) (v d : Word) (r : Image) (s : State)

@[simp] theorem readRegister_regs : (readRegister p b a be v s).regs = s.regs := by
  unfold readRegister; split <;> rfl

@[simp] theorem readRegister_running : (readRegister p b a be v s).running = s.running := by
  unfold readRegister; split <;> rfl

@[simp] theorem readRegister_timeline : (readRegister p b a be v s).timeline = s.timeline := by
  unfold readRegister; split <;> rfl

@[simp] theorem readRegister_saved : (readRegister p b a be v s).saved = s.saved := by
  unfold readRegister; split <;> rfl

@[simp] theorem readRegister_rtcCalls : (readRegister p b a be v s).rtcCalls = s.rtcCalls := by
  unfold readRegister; split <;> rfl

@[simp] theorem readRegister_rdata :
    (readRegister p b a be v s).rdata = some (if laneOkUnder p be then v else 0) := by
  unfold readRegister; split <;> rfl

@[simp] theorem writeRegister_regs :
    (writeRegister p b a be d r s).regs = if laneOkUnder p be then r else s.regs := by
  unfold writeRegister; split <;> rfl

@[simp] theorem writeRegister_running : (writeRegister p b a be d r s).running = s.running := by
  unfold writeRegister; split <;> rfl

@[simp] theorem writeRegister_timeline : (writeRegister p b a be d r s).timeline = s.timeline := by
  unfold writeRegister; split <;> rfl

@[simp] theorem writeRegister_rdata : (writeRegister p b a be d r s).rdata = s.rdata := by
  unfold writeRegister; split <;> rfl

@[simp] theorem writeRegister_saved : (writeRegister p b a be d r s).saved = s.saved := by
  unfold writeRegister; split <;> rfl

@[simp] theorem writeRegister_rtcCalls : (writeRegister p b a be d r s).rtcCalls = s.rtcCalls := by
  unfold writeRegister; split <;> rfl

end

@[simp] theorem tickIfRunning_running (tick : Image → Image) (s : State) :
    (tickIfRunning tick s).running = s.running := by
  unfold tickIfRunning; split <;> rfl

@[simp] theorem tickIfRunning_timeline (tick : Image → Image) (s : State) :
    (tickIfRunning tick s).timeline = s.timeline := by
  unfold tickIfRunning; split <;> rfl

theorem tickIfRunning_regs (tick : Image → Image) (s : State) :
    (tickIfRunning tick s).regs = if s.running then tick s.regs else s.regs := by
  unfold tickIfRunning; split <;> rfl

/-! ### The step -/

/-- Everything a step can do: the next listed event runs on the state without it, a listed word that is not an event is
refused, a running device with nothing listed ticks one of its sources, and a stopped one stays as it is. -/
theorem step_cases (s : State) :
    (∃ e rest i, s.timeline = e :: rest ∧ decode e = .event i ∧ step s = exec i { s with timeline := rest }) ∨
    (∃ e rest why, s.timeline = e :: rest ∧ decode e = .rejected why ∧ step s = .refused (refusalOf why)) ∨
    (s.timeline = [] ∧ s.running = true ∧
      (step s = execFtick { s with choices := s.choices + 1 } ∨
        step s = execStick { s with choices := s.choices + 1 })) ∨
    (s.timeline = [] ∧ s.running = false ∧ step s = .next s) := by
  cases htl : s.timeline with
  | nil =>
    right; right
    simp only [step, takeEvent, htl, idleStep]
    cases hr : s.running with
    | false => simp
    | true =>
      cases nextTick s.choices <;> simp
  | cons e rest =>
    simp only [step, takeEvent, htl]
    cases hd : decode e with
    | event i => left; exact ⟨e, rest, i, rfl, hd, rfl⟩
    | rejected why => right; left; exact ⟨e, rest, why, rfl, hd, rfl⟩

end Sys2Proof.Machine
end

