-- ==== Sys2Proof/Laws/PerInstr.lean ====
section
/-! SUPPORT. One lemma per event: its encoding carries a byte offset that is a multiple of 8 (R51, R80). -/

namespace Sys2Proof.Laws.Aligned

open Sys2Proof

/-- The offset field of a well-formed event's word is a multiple of 8. -/
def Statement (i : Instr) : Prop := i.wellFormed = true → (offsetField (encode i).word).toNat % 8 = 0

theorem of_offsetBetween {first last : Nat} {a : Offset} (h : offsetBetween first last a = true) : a.toNat % 8 = 0 := by
  simp only [offsetBetween, Bool.and_eq_true, beq_iff_eq] at h
  exact h.1.1

theorem of_offsetInHole {a : Offset} (h : offsetInHole a = true) : a.toNat % 8 = 0 := by
  rcases Bool.or_eq_true_iff.mp h with h | h <;> exact of_offsetBetween h

/-- A read's offset field is its offset. -/
theorem rdEvent_offset (a : Offset) (be : Lanes) : offsetField (rdEvent a be).word = a :=
  offsetField_eventWord _ _

/-- A write's offset field is its offset. -/
theorem wrEvent_offset (a : Offset) (be : Lanes) (d : Word) : offsetField (wrEvent a be d).word = a :=
  offsetField_eventWord _ _

/-- The offset field of every other event is zero. -/
theorem hostEvent_offset (k : Kind) (image : Image) : offsetField (hostEvent k image).word = 0 :=
  offsetField_eventWord _ _

theorem rdUstMsc (be : Lanes) : Statement (.rdUstMsc be) := fun _ =>
  congrArg (·.toNat % 8) (rdEvent_offset _ be)

theorem rdCompare1 (be : Lanes) : Statement (.rdCompare1 be) := fun _ =>
  congrArg (·.toNat % 8) (rdEvent_offset _ be)

theorem rdCompare2 (be : Lanes) : Statement (.rdCompare2 be) := fun _ =>
  congrArg (·.toNat % 8) (rdEvent_offset _ be)

theorem rdCompare3 (be : Lanes) : Statement (.rdCompare3 be) := fun _ =>
  congrArg (·.toNat % 8) (rdEvent_offset _ be)

theorem rdAinMscUst (be : Lanes) : Statement (.rdAinMscUst be) := fun _ =>
  congrArg (·.toNat % 8) (rdEvent_offset _ be)

theorem rdAout1MscUst (be : Lanes) : Statement (.rdAout1MscUst be) := fun _ =>
  congrArg (·.toNat % 8) (rdEvent_offset _ be)

theorem rdAout2MscUst (be : Lanes) : Statement (.rdAout2MscUst be) := fun _ =>
  congrArg (·.toNat % 8) (rdEvent_offset _ be)

theorem rdVin1MscUst (be : Lanes) : Statement (.rdVin1MscUst be) := fun _ =>
  congrArg (·.toNat % 8) (rdEvent_offset _ be)

theorem rdVin2MscUst (be : Lanes) : Statement (.rdVin2MscUst be) := fun _ =>
  congrArg (·.toNat % 8) (rdEvent_offset _ be)

theorem rdVoutMscUst (be : Lanes) : Statement (.rdVoutMscUst be) := fun _ =>
  congrArg (·.toNat % 8) (rdEvent_offset _ be)

theorem rdUstMscUnk (a : Offset) (be : Lanes) : Statement (.rdUstMscUnk a be) := fun h =>
  (congrArg (·.toNat % 8) (rdEvent_offset a be)).trans (of_offsetBetween h)

theorem wrUstMsc (be : Lanes) (d : Word) : Statement (.wrUstMsc be d) := fun _ =>
  congrArg (·.toNat % 8) (wrEvent_offset _ be d)

theorem wrCompare1 (be : Lanes) (d : Word) : Statement (.wrCompare1 be d) := fun _ =>
  congrArg (·.toNat % 8) (wrEvent_offset _ be d)

theorem wrCompare2 (be : Lanes) (d : Word) : Statement (.wrCompare2 be d) := fun _ =>
  congrArg (·.toNat % 8) (wrEvent_offset _ be d)

theorem wrCompare3 (be : Lanes) (d : Word) : Statement (.wrCompare3 be d) := fun _ =>
  congrArg (·.toNat % 8) (wrEvent_offset _ be d)

theorem wrAinMscUst (be : Lanes) (d : Word) : Statement (.wrAinMscUst be d) := fun _ =>
  congrArg (·.toNat % 8) (wrEvent_offset _ be d)

theorem wrAout1MscUst (be : Lanes) (d : Word) : Statement (.wrAout1MscUst be d) := fun _ =>
  congrArg (·.toNat % 8) (wrEvent_offset _ be d)

theorem wrAout2MscUst (be : Lanes) (d : Word) : Statement (.wrAout2MscUst be d) := fun _ =>
  congrArg (·.toNat % 8) (wrEvent_offset _ be d)

theorem wrVin1MscUst (be : Lanes) (d : Word) : Statement (.wrVin1MscUst be d) := fun _ =>
  congrArg (·.toNat % 8) (wrEvent_offset _ be d)

theorem wrVin2MscUst (be : Lanes) (d : Word) : Statement (.wrVin2MscUst be d) := fun _ =>
  congrArg (·.toNat % 8) (wrEvent_offset _ be d)

theorem wrVoutMscUst (be : Lanes) (d : Word) : Statement (.wrVoutMscUst be d) := fun _ =>
  congrArg (·.toNat % 8) (wrEvent_offset _ be d)

theorem wrUstMscUnk (a : Offset) (be : Lanes) (d : Word) : Statement (.wrUstMscUnk a be d) := fun h =>
  (congrArg (·.toNat % 8) (wrEvent_offset a be d)).trans (of_offsetBetween h)

theorem rdRingbase (be : Lanes) : Statement (.rdRingbase be) := fun _ =>
  congrArg (·.toNat % 8) (rdEvent_offset _ be)

theorem rdFlashNicCtrl (be : Lanes) : Statement (.rdFlashNicCtrl be) := fun _ =>
  congrArg (·.toNat % 8) (rdEvent_offset _ be)

theorem rdIntStatus (be : Lanes) : Statement (.rdIntStatus be) := fun _ =>
  congrArg (·.toNat % 8) (rdEvent_offset _ be)

theorem rdIntMask (be : Lanes) : Statement (.rdIntMask be) := fun _ =>
  congrArg (·.toNat % 8) (rdEvent_offset _ be)

theorem rdIsaUnk (a : Offset) (be : Lanes) : Statement (.rdIsaUnk a be) := fun h =>
  (congrArg (·.toNat % 8) (rdEvent_offset a be)).trans (of_offsetBetween h)

theorem wrRingbase (be : Lanes) (d : Word) : Statement (.wrRingbase be d) := fun _ =>
  congrArg (·.toNat % 8) (wrEvent_offset _ be d)

theorem wrFlashNicCtrl (be : Lanes) (d : Word) : Statement (.wrFlashNicCtrl be d) := fun _ =>
  congrArg (·.toNat % 8) (wrEvent_offset _ be d)

theorem wrIntStatus (be : Lanes) (d : Word) : Statement (.wrIntStatus be d) := fun _ =>
  congrArg (·.toNat % 8) (wrEvent_offset _ be d)

theorem wrIntMask (be : Lanes) (d : Word) : Statement (.wrIntMask be d) := fun _ =>
  congrArg (·.toNat % 8) (wrEvent_offset _ be d)

theorem wrIsaUnk (a : Offset) (be : Lanes) (d : Word) : Statement (.wrIsaUnk a be d) := fun h =>
  (congrArg (·.toNat % 8) (wrEvent_offset a be d)).trans (of_offsetBetween h)

theorem rdPci (a : Offset) (be : Lanes) : Statement (.rdPci a be) := fun h =>
  (congrArg (·.toNat % 8) (rdEvent_offset a be)).trans (of_offsetBetween h)

theorem wrPci (a : Offset) (be : Lanes) (d : Word) : Statement (.wrPci a be d) := fun h =>
  (congrArg (·.toNat % 8) (wrEvent_offset a be d)).trans (of_offsetBetween h)

theorem rdVin1 (a : Offset) (be : Lanes) : Statement (.rdVin1 a be) := fun h =>
  (congrArg (·.toNat % 8) (rdEvent_offset a be)).trans (of_offsetBetween h)

theorem wrVin1 (a : Offset) (be : Lanes) (d : Word) : Statement (.wrVin1 a be d) := fun h =>
  (congrArg (·.toNat % 8) (wrEvent_offset a be d)).trans (of_offsetBetween h)

theorem rdVin2 (a : Offset) (be : Lanes) : Statement (.rdVin2 a be) := fun h =>
  (congrArg (·.toNat % 8) (rdEvent_offset a be)).trans (of_offsetBetween h)

theorem wrVin2 (a : Offset) (be : Lanes) (d : Word) : Statement (.wrVin2 a be d) := fun h =>
  (congrArg (·.toNat % 8) (wrEvent_offset a be d)).trans (of_offsetBetween h)

theorem rdVout (a : Offset) (be : Lanes) : Statement (.rdVout a be) := fun h =>
  (congrArg (·.toNat % 8) (rdEvent_offset a be)).trans (of_offsetBetween h)

theorem wrVout (a : Offset) (be : Lanes) (d : Word) : Statement (.wrVout a be d) := fun h =>
  (congrArg (·.toNat % 8) (wrEvent_offset a be d)).trans (of_offsetBetween h)

theorem rdEnet (a : Offset) (be : Lanes) : Statement (.rdEnet a be) := fun h =>
  (congrArg (·.toNat % 8) (rdEvent_offset a be)).trans (of_offsetBetween h)

theorem wrEnet (a : Offset) (be : Lanes) (d : Word) : Statement (.wrEnet a be d) := fun h =>
  (congrArg (·.toNat % 8) (wrEvent_offset a be d)).trans (of_offsetBetween h)

theorem rdAudio (a : Offset) (be : Lanes) : Statement (.rdAudio a be) := fun h =>
  (congrArg (·.toNat % 8) (rdEvent_offset a be)).trans (of_offsetBetween h)

theorem wrAudio (a : Offset) (be : Lanes) (d : Word) : Statement (.wrAudio a be d) := fun h =>
  (congrArg (·.toNat % 8) (wrEvent_offset a be d)).trans (of_offsetBetween h)

theorem rdKbdms (a : Offset) (be : Lanes) : Statement (.rdKbdms a be) := fun h =>
  (congrArg (·.toNat % 8) (rdEvent_offset a be)).trans (of_offsetBetween h)

theorem wrKbdms (a : Offset) (be : Lanes) (d : Word) : Statement (.wrKbdms a be d) := fun h =>
  (congrArg (·.toNat % 8) (wrEvent_offset a be d)).trans (of_offsetBetween h)

theorem rdI2c (a : Offset) (be : Lanes) : Statement (.rdI2c a be) := fun h =>
  (congrArg (·.toNat % 8) (rdEvent_offset a be)).trans (of_offsetBetween h)

theorem wrI2c (a : Offset) (be : Lanes) (d : Word) : Statement (.wrI2c a be d) := fun h =>
  (congrArg (·.toNat % 8) (wrEvent_offset a be d)).trans (of_offsetBetween h)

theorem rdIsaExt (a : Offset) (be : Lanes) : Statement (.rdIsaExt a be) := fun h =>
  (congrArg (·.toNat % 8) (rdEvent_offset a be)).trans (of_offsetBetween h)

theorem wrIsaExt (a : Offset) (be : Lanes) (d : Word) : Statement (.wrIsaExt a be d) := fun h =>
  (congrArg (·.toNat % 8) (wrEvent_offset a be d)).trans (of_offsetBetween h)

theorem rdUnmapped (a : Offset) (be : Lanes) : Statement (.rdUnmapped a be) := fun h =>
  (congrArg (·.toNat % 8) (rdEvent_offset a be)).trans (of_offsetInHole h)

theorem wrUnmapped (a : Offset) (be : Lanes) (d : Word) : Statement (.wrUnmapped a be d) := fun h =>
  (congrArg (·.toNat % 8) (wrEvent_offset a be d)).trans (of_offsetInHole h)

theorem rdRtc (a : Offset) (be : Lanes) : Statement (.rdRtc a be) := fun h =>
  (congrArg (·.toNat % 8) (rdEvent_offset a be)).trans (of_offsetBetween h)

theorem wrRtc (a : Offset) (be : Lanes) (d : Word) : Statement (.wrRtc a be d) := fun h =>
  (congrArg (·.toNat % 8) (wrEvent_offset a be d)).trans (of_offsetBetween h)

theorem ftick : Statement (.ftick) := fun _ =>
  congrArg (·.toNat % 8) (hostEvent_offset _ _)

theorem stick : Statement (.stick) := fun _ =>
  congrArg (·.toNat % 8) (hostEvent_offset _ _)

theorem reset : Statement (.reset) := fun _ =>
  congrArg (·.toNat % 8) (hostEvent_offset _ _)

theorem stop : Statement (.stop) := fun _ =>
  congrArg (·.toNat % 8) (hostEvent_offset _ _)

theorem save : Statement (.save) := fun _ =>
  congrArg (·.toNat % 8) (hostEvent_offset _ _)

theorem restore (image : Image) : Statement (.restore image) := fun _ =>
  congrArg (·.toNat % 8) (hostEvent_offset _ _)

end Sys2Proof.Laws.Aligned
end

