-- ==== Sys2Proof/Laws/Ticks.lean ====
section
/-! SUPPORT. What is known of the tick sources acting by themselves: which step it is, and that neither source is left
out for ever. -/

namespace Sys2Proof.Machine

open Sys2Proof

/-- Both sources come again and again in the order of ticks, whatever that order is (R104). -/
theorem nextTick_fair (source : TickSource) (n : Nat) : ∃ m, n ≤ m ∧ nextTick m = source := by
  -- the places of the values 0, 2, 4, ... (or 1, 3, 5, ...) are all different, so they do not all lie below n
  let bit := match source with | .fast => 0 | .slow => 1
  have hinj : Function.Injective fun k : Nat => Config.tickOrder.symm (2 * k + bit) := by
    intro j k h
    have := Config.tickOrder.symm.injective h
    omega
  obtain ⟨m, ⟨k, hk⟩, hm⟩ := (Set.infinite_range_of_injective hinj).exists_gt n
  refine ⟨m, hm.le, ?_⟩
  have hval : Config.tickOrder m = 2 * k + bit := by
    rw [← hk]
    exact Config.tickOrder.apply_symm_apply _
  unfold nextTick
  rw [hval]
  cases source <;> simp [bit]

/-- With nothing listed, a step of a running device is the tick its order of ticks has next. -/
theorem step_idle {s : State} (ht : s.timeline = []) (hr : s.running = true) :
    step s = exec (tickEvent (nextTick s.choices)) { s with choices := s.choices + 1 } := by
  simp only [step, takeEvent, ht, idleStep, hr, if_true]
  cases nextTick s.choices <;> rfl

/-- A tick event of a running device answers the state with that source's tick done. -/
theorem exec_tickEvent {s : State} (hr : s.running = true) (source : TickSource) :
    exec (tickEvent source) s = .next (match source with
      | .fast => withRegs (fastTick s.regs) s
      | .slow => withRegs (slowTick s.regs) s) := by
  cases source <;> simp [tickEvent, exec, execFtick, execStick, tickIfRunning, hr]

end Sys2Proof.Machine
end

