-- ==== Sys2Proof/Laws/Timed.lean ====
section
/-! SUPPORT. Everything a tick of the timed refinement can do. -/

namespace Sys2Proof.Machine

open Sys2Proof

/-- A tick of a running device: the time to the tick due soonest passes, and that source ticks and is armed anew. -/
theorem timedTickUnder_of_running {t : TimedState} (hr : t.core.running = true) (order : TickSource) :
    let gone := min t.nextFast t.nextSlow
    let met := if t.nextFast = t.nextSlow then t.coincidences + 1 else t.coincidences
    timedTickUnder order t = .next (match dueSource order t with
      | .fast => ⟨withRegs (fastTick t.core.regs) t.core, fastPeriod, t.nextSlow - gone, t.elapsed + gone, met⟩
      | .slow => ⟨withRegs (slowTick t.core.regs) t.core, t.nextFast - gone, slowPeriod, t.elapsed + gone, met⟩) := by
  simp only [timedTickUnder, hr, if_true, timedWait, Nat.min_self]
  cases dueSource order t <;> simp [timedFast, timedSlow, execFtick, execStick, tickIfRunning, hr]

/-- Nothing ticks in a stopped device. -/
theorem timedTickUnder_of_stopped {t : TimedState} (hr : t.core.running = false) (order : TickSource) :
    timedTickUnder order t = .next t := by
  simp [timedTickUnder, hr]

end Sys2Proof.Machine
end

