-- ==== Sys2Proof/Tests/Slice0.lean ====
section
/-! SUPPORT. The model's own tests: the operand checks, decoding against words written out from the spec's encodings,
single events against the vectors of 95_test_vectors.md, and for each statement a state and operands that meet its
hypotheses. Every expected value comes from the spec; a name such as E1 or T6 is that file's id of the vector. -/

namespace Sys2Proof.Tests

open Sys2Proof Sys2Proof.Machine

/-! ### Small states -/

/-- A running device with the given registers and nothing on its ports. -/
def device (r : Image) : State := { State.reset with regs := r }

/-- The same, stopped. -/
def stopped (r : Image) : State := { State.reset with regs := r, running := false }

/-- The registers of a device whose counters are `u` and `m`, coherent, all else zero. -/
def counters (u m : Half) : Image := { Image.zero with ust := u, msc := m, ustMsc := compose u m }

/-- The state an event answers, if it answers one. -/
def after (i : Instr) (s : State) : Option State :=
  match exec i s with
  | .next t => some t
  | .fault _ => none
  | .refused _ => none

/-- The registers after an event. -/
def regsAfter (i : Instr) (s : State) : Option Image := (after i s).map State.regs

/-- What an event drives on the read-data output. -/
def dataAfter (i : Instr) (s : State) : Option Word := (after i s).bind State.rdata

/-- The records an event puts on the diagnostic channel of a device that has none yet. -/
def recordsAfter (i : Instr) (s : State) : Option (List DiagRecord) := (after i s).map State.diag

/-- The calls an event makes on the RTC port of a device that has made none yet. -/
def callsAfter (i : Instr) (s : State) : Option (List RtcCall) := (after i s).map State.rtcCalls

/-! ### Operand checks: each check refuses a term, and the ends of each range pass -/

/-- Just below, first, misaligned, last, just above (R130, R141, R154, R159). -/
theorem test_wellFormed_unknown_offsets :
    Instr.wellFormed (.rdUstMscUnk 0x330048 0) = false ∧
    Instr.wellFormed (.rdUstMscUnk 0x330050 0) = true ∧
    Instr.wellFormed (.rdUstMscUnk 0x330054 0) = false ∧
    Instr.wellFormed (.rdUstMscUnk 0x33FFF8 0) = true ∧
    Instr.wellFormed (.rdUstMscUnk 0x340000 0) = false ∧
    Instr.wellFormed (.wrUstMscUnk 0x330048 0 0) = false ∧
    Instr.wellFormed (.wrUstMscUnk 0x330050 0 0) = true ∧
    Instr.wellFormed (.wrUstMscUnk 0x330054 0 0) = false ∧
    Instr.wellFormed (.wrUstMscUnk 0x33FFF8 0 0) = true ∧
    Instr.wellFormed (.wrUstMscUnk 0x340000 0 0) = false ∧
    Instr.wellFormed (.rdIsaUnk 0x300018 0) = false ∧
    Instr.wellFormed (.rdIsaUnk 0x300020 0) = true ∧
    Instr.wellFormed (.rdIsaUnk 0x300024 0) = false ∧
    Instr.wellFormed (.rdIsaUnk 0x30FFF8 0) = true ∧
    Instr.wellFormed (.rdIsaUnk 0x310000 0) = false ∧
    Instr.wellFormed (.wrIsaUnk 0x300018 0 0) = false ∧
    Instr.wellFormed (.wrIsaUnk 0x300020 0 0) = true ∧
    Instr.wellFormed (.wrIsaUnk 0x300024 0 0) = false ∧
    Instr.wellFormed (.wrIsaUnk 0x30FFF8 0 0) = true ∧
    Instr.wellFormed (.wrIsaUnk 0x310000 0 0) = false := by decide

/-- The same for the first five stub blocks (R172 to R181). -/
theorem test_wellFormed_stubs_1 :
    Instr.wellFormed (.rdPci 0x000000 0) = true ∧
    Instr.wellFormed (.rdPci 0x000004 0) = false ∧
    Instr.wellFormed (.rdPci 0x07FFF8 0) = true ∧
    Instr.wellFormed (.rdPci 0x080000 0) = false ∧
    Instr.wellFormed (.wrPci 0x000000 0 0) = true ∧
    Instr.wellFormed (.wrPci 0x000004 0 0) = false ∧
    Instr.wellFormed (.wrPci 0x07FFF8 0 0) = true ∧
    Instr.wellFormed (.wrPci 0x080000 0 0) = false ∧
    Instr.wellFormed (.rdVin1 0x07FFF8 0) = false ∧
    Instr.wellFormed (.rdVin1 0x080000 0) = true ∧
    Instr.wellFormed (.rdVin1 0x080004 0) = false ∧
    Instr.wellFormed (.rdVin1 0x0FFFF8 0) = true ∧
    Instr.wellFormed (.rdVin1 0x100000 0) = false ∧
    Instr.wellFormed (.wrVin1 0x07FFF8 0 0) = false ∧
    Instr.wellFormed (.wrVin1 0x080000 0 0) = true ∧
    Instr.wellFormed (.wrVin1 0x080004 0 0) = false ∧
    Instr.wellFormed (.wrVin1 0x0FFFF8 0 0) = true ∧
    Instr.wellFormed (.wrVin1 0x100000 0 0) = false ∧
    Instr.wellFormed (.rdVin2 0x0FFFF8 0) = false ∧
    Instr.wellFormed (.rdVin2 0x100000 0) = true ∧
    Instr.wellFormed (.rdVin2 0x100004 0) = false ∧
    Instr.wellFormed (.rdVin2 0x17FFF8 0) = true ∧
    Instr.wellFormed (.rdVin2 0x180000 0) = false ∧
    Instr.wellFormed (.wrVin2 0x0FFFF8 0 0) = false ∧
    Instr.wellFormed (.wrVin2 0x100000 0 0) = true ∧
    Instr.wellFormed (.wrVin2 0x100004 0 0) = false ∧
    Instr.wellFormed (.wrVin2 0x17FFF8 0 0) = true ∧
    Instr.wellFormed (.wrVin2 0x180000 0 0) = false ∧
    Instr.wellFormed (.rdVout 0x17FFF8 0) = false ∧
    Instr.wellFormed (.rdVout 0x180000 0) = true ∧
    Instr.wellFormed (.rdVout 0x180004 0) = false ∧
    Instr.wellFormed (.rdVout 0x1FFFF8 0) = true ∧
    Instr.wellFormed (.rdVout 0x200000 0) = false ∧
    Instr.wellFormed (.wrVout 0x17FFF8 0 0) = false ∧
    Instr.wellFormed (.wrVout 0x180000 0 0) = true ∧
    Instr.wellFormed (.wrVout 0x180004 0 0) = false ∧
    Instr.wellFormed (.wrVout 0x1FFFF8 0 0) = true ∧
    Instr.wellFormed (.wrVout 0x200000 0 0) = false ∧
    Instr.wellFormed (.rdEnet 0x1FFFF8 0) = false ∧
    Instr.wellFormed (.rdEnet 0x200000 0) = true ∧
    Instr.wellFormed (.rdEnet 0x200004 0) = false ∧
    Instr.wellFormed (.rdEnet 0x27FFF8 0) = true ∧
    Instr.wellFormed (.rdEnet 0x280000 0) = false ∧
    Instr.wellFormed (.wrEnet 0x1FFFF8 0 0) = false ∧
    Instr.wellFormed (.wrEnet 0x200000 0 0) = true ∧
    Instr.wellFormed (.wrEnet 0x200004 0 0) = false ∧
    Instr.wellFormed (.wrEnet 0x27FFF8 0 0) = true ∧
    Instr.wellFormed (.wrEnet 0x280000 0 0) = false := by decide

/-- The same for the other stub blocks and the RTC (R182 to R189, R204, R205). -/
theorem test_wellFormed_stubs_2 :
    Instr.wellFormed (.rdAudio 0x27FFF8 0) = false ∧
    Instr.wellFormed (.rdAudio 0x280000 0) = true ∧
    Instr.wellFormed (.rdAudio 0x280004 0) = false ∧
    Instr.wellFormed (.rdAudio 0x2FFFF8 0) = true ∧
    Instr.wellFormed (.rdAudio 0x300000 0) = false ∧
    Instr.wellFormed (.wrAudio 0x27FFF8 0 0) = false ∧
    Instr.wellFormed (.wrAudio 0x280000 0 0) = true ∧
    Instr.wellFormed (.wrAudio 0x280004 0 0) = false ∧
    Instr.wellFormed (.wrAudio 0x2FFFF8 0 0) = true ∧
    Instr.wellFormed (.wrAudio 0x300000 0 0) = false ∧
    Instr.wellFormed (.rdKbdms 0x30FFF8 0) = false ∧
    Instr.wellFormed (.rdKbdms 0x310000 0) = true ∧
    Instr.wellFormed (.rdKbdms 0x310004 0) = false ∧
    Instr.wellFormed (.rdKbdms 0x31FFF8 0) = true ∧
    Instr.wellFormed (.rdKbdms 0x320000 0) = false ∧
    Instr.wellFormed (.wrKbdms 0x30FFF8 0 0) = false ∧
    Instr.wellFormed (.wrKbdms 0x310000 0 0) = true ∧
    Instr.wellFormed (.wrKbdms 0x310004 0 0) = false ∧
    Instr.wellFormed (.wrKbdms 0x31FFF8 0 0) = true ∧
    Instr.wellFormed (.wrKbdms 0x320000 0 0) = false ∧
    Instr.wellFormed (.rdI2c 0x31FFF8 0) = false ∧
    Instr.wellFormed (.rdI2c 0x320000 0) = true ∧
    Instr.wellFormed (.rdI2c 0x320004 0) = false ∧
    Instr.wellFormed (.rdI2c 0x32FFF8 0) = true ∧
    Instr.wellFormed (.rdI2c 0x330000 0) = false ∧
    Instr.wellFormed (.wrI2c 0x31FFF8 0 0) = false ∧
    Instr.wellFormed (.wrI2c 0x320000 0 0) = true ∧
    Instr.wellFormed (.wrI2c 0x320004 0 0) = false ∧
    Instr.wellFormed (.wrI2c 0x32FFF8 0 0) = true ∧
    Instr.wellFormed (.wrI2c 0x330000 0 0) = false ∧
    Instr.wellFormed (.rdIsaExt 0x37FFF8 0) = false ∧
    Instr.wellFormed (.rdIsaExt 0x380000 0) = true ∧
    Instr.wellFormed (.rdIsaExt 0x380004 0) = false ∧
    Instr.wellFormed (.rdIsaExt 0x39FFF8 0) = true ∧
    Instr.wellFormed (.rdIsaExt 0x3A0000 0) = false ∧
    Instr.wellFormed (.wrIsaExt 0x37FFF8 0 0) = false ∧
    Instr.wellFormed (.wrIsaExt 0x380000 0 0) = true ∧
    Instr.wellFormed (.wrIsaExt 0x380004 0 0) = false ∧
    Instr.wellFormed (.wrIsaExt 0x39FFF8 0 0) = true ∧
    Instr.wellFormed (.wrIsaExt 0x3A0000 0 0) = false ∧
    Instr.wellFormed (.rdRtc 0x39FFF8 0) = false ∧
    Instr.wellFormed (.rdRtc 0x3A0000 0) = true ∧
    Instr.wellFormed (.rdRtc 0x3A0004 0) = false ∧
    Instr.wellFormed (.rdRtc 0x3A7FF8 0) = true ∧
    Instr.wellFormed (.rdRtc 0x3A8000 0) = false ∧
    Instr.wellFormed (.wrRtc 0x39FFF8 0 0) = false ∧
    Instr.wellFormed (.wrRtc 0x3A0000 0 0) = true ∧
    Instr.wellFormed (.wrRtc 0x3A0004 0 0) = false ∧
    Instr.wellFormed (.wrRtc 0x3A7FF8 0 0) = true ∧
    Instr.wellFormed (.wrRtc 0x3A8000 0 0) = false := by decide

/-- The two holes and their neighbours (R190, R191). -/
theorem test_wellFormed_holes :
    Instr.wellFormed (.rdUnmapped 0x33FFF8 0) = false ∧
    Instr.wellFormed (.rdUnmapped 0x340000 0) = true ∧
    Instr.wellFormed (.rdUnmapped 0x340004 0) = false ∧
    Instr.wellFormed (.rdUnmapped 0x37FFF8 0) = true ∧
    Instr.wellFormed (.rdUnmapped 0x380000 0) = false ∧
    Instr.wellFormed (.rdUnmapped 0x3A7FF8 0) = false ∧
    Instr.wellFormed (.rdUnmapped 0x3A8000 0) = true ∧
    Instr.wellFormed (.rdUnmapped 0x3FFFF8 0) = true ∧
    Instr.wellFormed (.wrUnmapped 0x33FFF8 0 0) = false ∧
    Instr.wellFormed (.wrUnmapped 0x340000 0 0) = true ∧
    Instr.wellFormed (.wrUnmapped 0x340004 0 0) = false ∧
    Instr.wellFormed (.wrUnmapped 0x37FFF8 0 0) = true ∧
    Instr.wellFormed (.wrUnmapped 0x380000 0 0) = false ∧
    Instr.wellFormed (.wrUnmapped 0x3A7FF8 0 0) = false ∧
    Instr.wellFormed (.wrUnmapped 0x3A8000 0 0) = true ∧
    Instr.wellFormed (.wrUnmapped 0x3FFFF8 0 0) = true := by decide

/-! ### Decoding: words written out as (kind << 22) | A from R80 and the offsets of R60, R87 and R88

The operands beside the word are zero. The vectors of 95_test_vectors.md section 2.7 are among them. -/

/-- R120 to R129. -/
theorem test_decode_timebase_reads :
    decodeTableWord 25 0x0330000 = some (.rdUstMsc 0) ∧
    decodeTableWord 25 0x0330008 = some (.rdCompare1 0) ∧
    decodeTableWord 25 0x0330010 = some (.rdCompare2 0) ∧
    decodeTableWord 25 0x0330018 = some (.rdCompare3 0) ∧
    decodeTableWord 25 0x0330020 = some (.rdAinMscUst 0) ∧
    decodeTableWord 25 0x0330028 = some (.rdAout1MscUst 0) ∧
    decodeTableWord 25 0x0330030 = some (.rdAout2MscUst 0) ∧
    decodeTableWord 25 0x0330038 = some (.rdVin1MscUst 0) ∧
    decodeTableWord 25 0x0330040 = some (.rdVin2MscUst 0) ∧
    decodeTableWord 25 0x0330048 = some (.rdVoutMscUst 0) := by decide

/-- R131 to R140. -/
theorem test_decode_timebase_writes :
    decodeTableWord 25 0x0730000 = some (.wrUstMsc 0 0) ∧
    decodeTableWord 25 0x0730008 = some (.wrCompare1 0 0) ∧
    decodeTableWord 25 0x0730010 = some (.wrCompare2 0 0) ∧
    decodeTableWord 25 0x0730018 = some (.wrCompare3 0 0) ∧
    decodeTableWord 25 0x0730020 = some (.wrAinMscUst 0 0) ∧
    decodeTableWord 25 0x0730028 = some (.wrAout1MscUst 0 0) ∧
    decodeTableWord 25 0x0730030 = some (.wrAout2MscUst 0 0) ∧
    decodeTableWord 25 0x0730038 = some (.wrVin1MscUst 0 0) ∧
    decodeTableWord 25 0x0730040 = some (.wrVin2MscUst 0 0) ∧
    decodeTableWord 25 0x0730048 = some (.wrVoutMscUst 0 0) := by decide

/-- R150 to R153 and R155 to R158. -/
theorem test_decode_isa :
    decodeTableWord 25 0x0300000 = some (.rdRingbase 0) ∧
    decodeTableWord 25 0x0300008 = some (.rdFlashNicCtrl 0) ∧
    decodeTableWord 25 0x0300010 = some (.rdIntStatus 0) ∧
    decodeTableWord 25 0x0300018 = some (.rdIntMask 0) ∧
    decodeTableWord 25 0x0700000 = some (.wrRingbase 0 0) ∧
    decodeTableWord 25 0x0700008 = some (.wrFlashNicCtrl 0 0) ∧
    decodeTableWord 25 0x0700010 = some (.wrIntStatus 0 0) ∧
    decodeTableWord 25 0x0700018 = some (.wrIntMask 0 0) := by decide

/-- R130, R141, R154, R159: both ends, and no aliasing of offset 0x00 at 0x100 (T9). -/
theorem test_decode_unknown_offsets :
    decodeTableWord 25 0x0330050 = some (.rdUstMscUnk 0x330050 0) ∧
    decodeTableWord 25 0x033FFF8 = some (.rdUstMscUnk 0x33FFF8 0) ∧
    decodeTableWord 25 0x0730050 = some (.wrUstMscUnk 0x330050 0 0) ∧
    decodeTableWord 25 0x073FFF8 = some (.wrUstMscUnk 0x33FFF8 0 0) ∧
    decodeTableWord 25 0x0300020 = some (.rdIsaUnk 0x300020 0) ∧
    decodeTableWord 25 0x030FFF8 = some (.rdIsaUnk 0x30FFF8 0) ∧
    decodeTableWord 25 0x0700020 = some (.wrIsaUnk 0x300020 0 0) ∧
    decodeTableWord 25 0x070FFF8 = some (.wrIsaUnk 0x30FFF8 0 0) ∧
    decodeTableWord 25 0x0330100 = some (.rdUstMscUnk 0x330100 0) := by decide

/-- R172 to R181: first and last word of each block. -/
theorem test_decode_stubs_1 :
    decodeTableWord 25 0x0000000 = some (.rdPci 0x000000 0) ∧
    decodeTableWord 25 0x007FFF8 = some (.rdPci 0x07FFF8 0) ∧
    decodeTableWord 25 0x0400000 = some (.wrPci 0x000000 0 0) ∧
    decodeTableWord 25 0x047FFF8 = some (.wrPci 0x07FFF8 0 0) ∧
    decodeTableWord 25 0x0080000 = some (.rdVin1 0x080000 0) ∧
    decodeTableWord 25 0x00FFFF8 = some (.rdVin1 0x0FFFF8 0) ∧
    decodeTableWord 25 0x0480000 = some (.wrVin1 0x080000 0 0) ∧
    decodeTableWord 25 0x04FFFF8 = some (.wrVin1 0x0FFFF8 0 0) ∧
    decodeTableWord 25 0x0100000 = some (.rdVin2 0x100000 0) ∧
    decodeTableWord 25 0x017FFF8 = some (.rdVin2 0x17FFF8 0) ∧
    decodeTableWord 25 0x0500000 = some (.wrVin2 0x100000 0 0) ∧
    decodeTableWord 25 0x057FFF8 = some (.wrVin2 0x17FFF8 0 0) ∧
    decodeTableWord 25 0x0180000 = some (.rdVout 0x180000 0) ∧
    decodeTableWord 25 0x01FFFF8 = some (.rdVout 0x1FFFF8 0) ∧
    decodeTableWord 25 0x0580000 = some (.wrVout 0x180000 0 0) ∧
    decodeTableWord 25 0x05FFFF8 = some (.wrVout 0x1FFFF8 0 0) ∧
    decodeTableWord 25 0x0200000 = some (.rdEnet 0x200000 0) ∧
    decodeTableWord 25 0x027FFF8 = some (.rdEnet 0x27FFF8 0) ∧
    decodeTableWord 25 0x0600000 = some (.wrEnet 0x200000 0 0) ∧
    decodeTableWord 25 0x067FFF8 = some (.wrEnet 0x27FFF8 0 0) := by decide

/-- R182 to R189, R204, R205: first and last word of each block. -/
theorem test_decode_stubs_2_and_rtc :
    decodeTableWord 25 0x0280000 = some (.rdAudio 0x280000 0) ∧
    decodeTableWord 25 0x02FFFF8 = some (.rdAudio 0x2FFFF8 0) ∧
    decodeTableWord 25 0x0680000 = some (.wrAudio 0x280000 0 0) ∧
    decodeTableWord 25 0x06FFFF8 = some (.wrAudio 0x2FFFF8 0 0) ∧
    decodeTableWord 25 0x0310000 = some (.rdKbdms 0x310000 0) ∧
    decodeTableWord 25 0x031FFF8 = some (.rdKbdms 0x31FFF8 0) ∧
    decodeTableWord 25 0x0710000 = some (.wrKbdms 0x310000 0 0) ∧
    decodeTableWord 25 0x071FFF8 = some (.wrKbdms 0x31FFF8 0 0) ∧
    decodeTableWord 25 0x0320000 = some (.rdI2c 0x320000 0) ∧
    decodeTableWord 25 0x032FFF8 = some (.rdI2c 0x32FFF8 0) ∧
    decodeTableWord 25 0x0720000 = some (.wrI2c 0x320000 0 0) ∧
    decodeTableWord 25 0x072FFF8 = some (.wrI2c 0x32FFF8 0 0) ∧
    decodeTableWord 25 0x0380000 = some (.rdIsaExt 0x380000 0) ∧
    decodeTableWord 25 0x039FFF8 = some (.rdIsaExt 0x39FFF8 0) ∧
    decodeTableWord 25 0x0780000 = some (.wrIsaExt 0x380000 0 0) ∧
    decodeTableWord 25 0x079FFF8 = some (.wrIsaExt 0x39FFF8 0 0) ∧
    decodeTableWord 25 0x03A0000 = some (.rdRtc 0x3A0000 0) ∧
    decodeTableWord 25 0x03A7FF8 = some (.rdRtc 0x3A7FF8 0) ∧
    decodeTableWord 25 0x07A0000 = some (.wrRtc 0x3A0000 0 0) ∧
    decodeTableWord 25 0x07A7FF8 = some (.wrRtc 0x3A7FF8 0 0) := by decide

/-- R190, R191: the ends of both holes. -/
theorem test_decode_holes :
    decodeTableWord 25 0x0340000 = some (.rdUnmapped 0x340000 0) ∧
    decodeTableWord 25 0x037FFF8 = some (.rdUnmapped 0x37FFF8 0) ∧
    decodeTableWord 25 0x0740000 = some (.wrUnmapped 0x340000 0 0) ∧
    decodeTableWord 25 0x077FFF8 = some (.wrUnmapped 0x37FFF8 0 0) ∧
    decodeTableWord 25 0x03A8000 = some (.rdUnmapped 0x3A8000 0) ∧
    decodeTableWord 25 0x03FFFF8 = some (.rdUnmapped 0x3FFFF8 0) ∧
    decodeTableWord 25 0x07A8000 = some (.wrUnmapped 0x3A8000 0 0) ∧
    decodeTableWord 25 0x07FFFF8 = some (.wrUnmapped 0x3FFFF8 0 0) := by decide

/-- R101, R102, R261, R210, R212, R213. -/
theorem test_decode_host_events :
    decodeTableWord 25 0x0800000 = some .ftick ∧
    decodeTableWord 25 0x0C00000 = some .stick ∧
    decodeTableWord 25 0x1000000 = some .reset ∧
    decodeTableWord 25 0x1400000 = some .stop ∧
    decodeTableWord 25 0x1800000 = some .save ∧
    decodeTableWord 25 0x1C00000 = some (.restore Image.zero) := by decide

/-- R84: A[2:0] not zero, low bits of an E word not zero, and a number of more than 25 bits. -/
theorem test_decode_rejects :
    decode (bareEvent 0x0330001) = .rejected .offsetNotAligned ∧
    decode (bareEvent 0x073000C) = .rejected .offsetNotAligned ∧
    decode (bareEvent 0x0800001) = .rejected .zeroFieldNotZero ∧
    decode (bareEvent 0x1E00000) = .rejected .zeroFieldNotZero ∧
    decodeTableWord 25 0x0330001 = none ∧
    decodeTableWord 25 0x1000008 = none ∧
    decodeTableWord 32 0x2000000 = none := by decide

/-- The operands beside the word reach the event (R81). -/
theorem test_decode_takes_operands :
    decode ⟨0x0730008, 0x0F, 0x1111111111111111, Image.zero⟩ = .event (.wrCompare1 0x0F 0x1111111111111111) ∧
    decode ⟨0x1C00000, 0, 0, counters 4 4⟩ = .event (.restore (counters 4 4)) := by decide

/-- R12, R92: MemRead and MemWrite are full-width events. -/
theorem test_encode_pseudo_events :
    memReadEvent 0x330000 = ⟨0x0330000, 0xFF, 0, Image.zero⟩ ∧
    memWriteEvent 0x300000 0xABCD = ⟨0x0700000, 0xFF, 0xABCD, Image.zero⟩ ∧
    fticks 2 = [⟨0x0800000, 0, 0, Image.zero⟩, ⟨0x0800000, 0, 0, Image.zero⟩] ∧
    sticks 1 = [⟨0x0C00000, 0, 0, Image.zero⟩] := by decide

/-! ### The opcode table -/

/-- Sixty rows; an exact row stands before the block row it lies in, and that before the catch-all (R84, R85). -/
theorem test_opcode_table_rows :
    opcodeTable.length = 60 ∧
    firstFit 0x0330018 = some "RD.COMPARE3" ∧
    firstFit 0x0330050 = some "RD.UST_MSC_UNK" ∧
    firstFit 0x0340000 = some "RD.UNMAPPED" ∧
    firstFit 0x1800000 = some "SAVE" := by decide

/-! ### The engine (95_test_vectors.md section 2.1) -/

/-- The counters and the composite after an event. -/
def countersAfter (i : Instr) (s : State) : Option (Half × Half × Word) :=
  (regsAfter i s).map fun r => (r.ust, r.msc, r.ustMsc)

/-- E1: UST wraps without a carry and MSC is kept. -/
theorem test_E1_ftick_wraps :
    countersAfter .ftick (device (counters 0xFFFFFFFF 0x12345678)) = some (0, 0x12345678, 0x0000000012345678) := by decide

/-- E2: MSC wraps without a carry into UST. -/
theorem test_E2_stick_wraps :
    countersAfter .stick (device (counters 7 0xFFFFFFFF)) = some (7, 0, 0x0000000700000000) := by decide

/-- The broken image of E8. -/
def brokenImage : Image := { Image.zero with ust := 5, msc := 7, ustMsc := 0x0000000900000003 }

/-- E8: a tick keeps the other half of the old composite, not the other counter. -/
theorem test_E8_tick_keeps_old_half :
    countersAfter .ftick (device brokenImage) = some (6, 7, 0x0000000600000003) ∧
    countersAfter .stick (device { brokenImage with ust := 6, ustMsc := 0x0000000600000003 }) = some (6, 8, 0x0000000600000008) := by decide

/-- E15: a stopped device does not tick. -/
theorem test_E15_no_tick_when_stopped :
    after .ftick (stopped (counters 3 0)) = some (stopped (counters 3 0)) ∧
    after .stick (stopped (counters 3 0)) = some (stopped (counters 3 0)) := by decide

/-- E3, E6, E7 and E12 with the spec's default bit numbers 13, 14, 15: three matches at once, a set bit stays set, other
bits stay set, and a threshold that is only lower than the composite does not match. -/
theorem test_E3_E6_E7_latch :
    statusAfterCompare 13 14 15 { counters 0 1 with compare1 := 1, compare2 := 1, compare3 := 1 } = 0xE000 ∧
    statusAfterCompare 13 14 15 { counters 0 1 with compare1 := 1, intStatus := 0x2000 } = 0x2000 ∧
    statusAfterCompare 13 14 15 { counters 0 1 with compare1 := 1, intStatus := 0x4000 } = 0x6000 ∧
    statusAfterCompare 13 14 15 { counters 3 0 with compare1 := 2, compare2 := 1, compare3 := 0x8000000000000000 } = 0 := by decide

/-- R36: bit 1 has no name. -/
theorem test_named_flash_bits :
    enableFlashWrites { Image.zero with flashNicCtrl := 0x1 } = true ∧
    nicDeassert { Image.zero with flashNicCtrl := 0x4 } = true ∧
    nicData { Image.zero with flashNicCtrl := 0x8 } = true ∧
    redLed { Image.zero with flashNicCtrl := 0x10 } = true ∧
    greenLed { Image.zero with flashNicCtrl := 0x20 } = true ∧
    dpRamEnable { Image.zero with flashNicCtrl := 0x40 } = true := by decide

/-! ### The timebase block (section 2.2) -/

/-- Every element different from every other. -/
def distinct : Image where
  ringbase := 0x101
  flashNicCtrl := 0x102
  intStatus := 0x103
  intMask := 0x104
  msc := 0x2
  ust := 0x5
  ustMsc := 0x0000000500000002
  compare1 := 0x105
  compare2 := 0x106
  compare3 := 0x107
  ainMscUst := 0x108
  aout1MscUst := 0x109
  aout2MscUst := 0x10A
  vin1MscUst := 0x10B
  vin2MscUst := 0x10C
  voutMscUst := 0x10D

/-- T1 and R120 to R129: each register reads as itself. -/
theorem test_T1_timebase_reads :
    dataAfter (.rdUstMsc 0xFF) (device distinct) = some 0x500000002 ∧
    dataAfter (.rdCompare1 0xFF) (device distinct) = some 0x105 ∧
    dataAfter (.rdCompare2 0xFF) (device distinct) = some 0x106 ∧
    dataAfter (.rdCompare3 0xFF) (device distinct) = some 0x107 ∧
    dataAfter (.rdAinMscUst 0xFF) (device distinct) = some 0x108 ∧
    dataAfter (.rdAout1MscUst 0xFF) (device distinct) = some 0x109 ∧
    dataAfter (.rdAout2MscUst 0xFF) (device distinct) = some 0x10A ∧
    dataAfter (.rdVin1MscUst 0xFF) (device distinct) = some 0x10B ∧
    dataAfter (.rdVin2MscUst 0xFF) (device distinct) = some 0x10C ∧
    dataAfter (.rdVoutMscUst 0xFF) (device distinct) = some 0x10D := by decide

/-- T2, T12, T6, I8: under STRICT an unexpected mask reads 0. -/
theorem test_T2_T12_unexpected_lanes_read :
    dataAfter (.rdUstMsc 0xF0) (device distinct) = some 0 ∧
    dataAfter (.rdCompare1 0x00) (device distinct) = some 0 ∧
    dataAfter (.rdCompare3 0x0F) (device distinct) = some 0 ∧
    dataAfter (.rdRingbase 0x01) (device distinct) = some 0 := by decide

/-- T3, T7, T8: writes of the composite and of the snapshots change no register. -/
theorem test_T3_T7_ignored_writes :
    regsAfter (.wrUstMsc 0xFF 0xFFFFFFFFFFFFFFFF) (device distinct) = some distinct ∧
    regsAfter (.wrAinMscUst 0xFF 0xFFFFFFFFFFFFFFFF) (device distinct) = some distinct ∧
    regsAfter (.wrAout1MscUst 0xFF 0xFFFFFFFFFFFFFFFF) (device distinct) = some distinct ∧
    regsAfter (.wrAout2MscUst 0xFF 0xFFFFFFFFFFFFFFFF) (device distinct) = some distinct ∧
    regsAfter (.wrVin1MscUst 0xFF 0xFFFFFFFFFFFFFFFF) (device distinct) = some distinct ∧
    regsAfter (.wrVin2MscUst 0xFF 0xFFFFFFFFFFFFFFFF) (device distinct) = some distinct ∧
    regsAfter (.wrVoutMscUst 0xFF 0xFFFFFFFFFFFFFFFF) (device distinct) = some distinct := by decide

/-- T4, T5, T11: each compare register alone is written, whole, and the status stays. -/
theorem test_T4_T5_T11_compare_writes :
    regsAfter (.wrCompare1 0xFF 0xDEADBEEFCAFEF00D) (device distinct) = some { distinct with compare1 := 0xDEADBEEFCAFEF00D } ∧
    regsAfter (.wrCompare2 0xFF 0xDEADBEEFCAFEF00D) (device distinct) = some { distinct with compare2 := 0xDEADBEEFCAFEF00D } ∧
    regsAfter (.wrCompare3 0xFF 0xDEADBEEFCAFEF00D) (device distinct) = some { distinct with compare3 := 0xDEADBEEFCAFEF00D } := by decide

/-- T6 and I8: under STRICT an unexpected mask discards the write. -/
theorem test_T6_unexpected_lanes_write :
    regsAfter (.wrCompare3 0x0F 0x1111111111111111) (device distinct) = some distinct ∧
    regsAfter (.wrRingbase 0x01 0x55) (device distinct) = some distinct := by decide

/-- The other policy of R56: under IGNORE the mask has no effect and no lane is merged (T2, T6, I8). -/
theorem test_T6_ignore_policy :
    readRegister .ignore .ustMsc 0x330000 0xF0 0x0000000500000002 (device distinct) = driveData 0x0000000500000002 (device distinct) ∧
    writeRegister .ignore .ustMsc 0x330018 0x0F 0x1111111111111111 { distinct with compare3 := 0x1111111111111111 } (device distinct) =
      device { distinct with compare3 := 0x1111111111111111 } := by decide

/-! ### The ISA block (section 2.3) -/

/-- I5 and R150 to R153: each register reads as itself; the status is not masked. -/
theorem test_I5_isa_reads :
    dataAfter (.rdRingbase 0xFF) (device distinct) = some 0x101 ∧
    dataAfter (.rdFlashNicCtrl 0xFF) (device distinct) = some 0x102 ∧
    dataAfter (.rdIntStatus 0xFF) (device distinct) = some 0x103 ∧
    dataAfter (.rdIntMask 0xFF) (device distinct) = some 0x104 := by decide

/-- I2, I3, I4, I6: all 64 bits are stored, and the status is not written. -/
theorem test_I1_I3_I4_I6_isa_writes :
    regsAfter (.wrRingbase 0xFF 0xFFFFFFFFFFFFFFFF) (device distinct) = some { distinct with ringbase := 0xFFFFFFFFFFFFFFFF } ∧
    regsAfter (.wrFlashNicCtrl 0xFF 0xFFFFFFFFFFFFFF82) (device distinct) = some { distinct with flashNicCtrl := 0xFFFFFFFFFFFFFF82 } ∧
    regsAfter (.wrIntStatus 0xFF 0xFFFFFFFFFFFFFFFF) (device distinct) = some distinct ∧
    regsAfter (.wrIntMask 0xFF 0xE000) (device distinct) = some { distinct with intMask := 0xE000 } := by decide

/-! ### Stubs, holes and diagnostic records (section 2.4, Program C) -/

/-- B1 and B4: the five fields of a record; the lane mask is reported, not consulted. -/
theorem test_B1_B4_records :
    recordsAfter (.wrPci 0x000010 0xFF 0x55) State.reset = some [⟨.pci, .write, Config.base + 0x10, 0x55, 0xFF⟩] ∧
    recordsAfter (.rdPci 0x000010 0xFF) State.reset = some [⟨.pci, .read, Config.base + 0x10, 0, 0xFF⟩] ∧
    recordsAfter (.rdAudio 0x2FFFF8 0x03) State.reset = some [⟨.audio, .read, Config.base + 0x2FFFF8, 0, 0x03⟩] := by 
  exact ⟨rfl, rfl, rfl⟩

/-- B3: the block each stub's record names, at the stub's last word. -/
theorem test_B3_block_names :
    recordsAfter (.rdPci 0x07FFF8 0xFF) State.reset = some [⟨.pci, .read, Config.base + 0x7FFF8, 0, 0xFF⟩] ∧
    recordsAfter (.rdVin1 0x0FFFF8 0xFF) State.reset = some [⟨.vin1, .read, Config.base + 0xFFFF8, 0, 0xFF⟩] ∧
    recordsAfter (.rdVin2 0x17FFF8 0xFF) State.reset = some [⟨.vin2, .read, Config.base + 0x17FFF8, 0, 0xFF⟩] ∧
    recordsAfter (.rdVout 0x1FFFF8 0xFF) State.reset = some [⟨.vout, .read, Config.base + 0x1FFFF8, 0, 0xFF⟩] ∧
    recordsAfter (.rdEnet 0x27FFF8 0xFF) State.reset = some [⟨.enet, .read, Config.base + 0x27FFF8, 0, 0xFF⟩] ∧
    recordsAfter (.rdAudio 0x2FFFF8 0xFF) State.reset = some [⟨.audio, .read, Config.base + 0x2FFFF8, 0, 0xFF⟩] ∧
    recordsAfter (.rdKbdms 0x31FFF8 0xFF) State.reset = some [⟨.kbdms, .read, Config.base + 0x31FFF8, 0, 0xFF⟩] ∧
    recordsAfter (.rdI2c 0x32FFF8 0xFF) State.reset = some [⟨.i2c, .read, Config.base + 0x32FFF8, 0, 0xFF⟩] ∧
    recordsAfter (.rdIsaExt 0x39FFF8 0xFF) State.reset = some [⟨.isaExt, .read, Config.base + 0x39FFF8, 0, 0xFF⟩] := by 
  exact ⟨rfl, rfl, rfl, rfl, rfl, rfl, rfl, rfl, rfl⟩

/-- B2 and B7: a stub reads 0 and a write of it changes no register. -/
theorem test_B2_B7_stubs_keep_nothing :
    dataAfter (.rdPci 0x000000 0xFF) (device distinct) = some 0 ∧
    dataAfter (.rdVin1 0x080000 0xFF) (device distinct) = some 0 ∧
    dataAfter (.rdVin2 0x100000 0xFF) (device distinct) = some 0 ∧
    dataAfter (.rdVout 0x180000 0xFF) (device distinct) = some 0 ∧
    dataAfter (.rdEnet 0x200000 0xFF) (device distinct) = some 0 ∧
    dataAfter (.rdAudio 0x280000 0xFF) (device distinct) = some 0 ∧
    dataAfter (.rdKbdms 0x310000 0xFF) (device distinct) = some 0 ∧
    dataAfter (.rdI2c 0x320000 0xFF) (device distinct) = some 0 ∧
    dataAfter (.rdIsaExt 0x380000 0xFF) (device distinct) = some 0 ∧
    regsAfter (.wrPci 0x000000 0xFF 0x55) (device distinct) = some distinct ∧
    regsAfter (.wrVin1 0x080000 0xFF 0x55) (device distinct) = some distinct ∧
    regsAfter (.wrVin2 0x100000 0xFF 0x55) (device distinct) = some distinct ∧
    regsAfter (.wrVout 0x180000 0xFF 0x55) (device distinct) = some distinct ∧
    regsAfter (.wrEnet 0x200000 0xFF 0x55) (device distinct) = some distinct ∧
    regsAfter (.wrAudio 0x280000 0xFF 0x55) (device distinct) = some distinct ∧
    regsAfter (.wrKbdms 0x310000 0xFF 0x55) (device distinct) = some distinct ∧
    regsAfter (.wrI2c 0x320000 0xFF 0x55) (device distinct) = some distinct ∧
    regsAfter (.wrIsaExt 0x380000 0xFF 0x55) (device distinct) = some distinct := by decide

/-- T9, T10, I7. -/
theorem test_T9_T10_I7_unknown_offsets :
    dataAfter (.rdUstMscUnk 0x330050 0xFF) (device distinct) = some 0 ∧
    regsAfter (.wrUstMscUnk 0x330050 0xFF 0xDEAD) (device distinct) = some distinct ∧
    dataAfter (.rdIsaUnk 0x30FFF8 0xFF) (device distinct) = some 0 ∧
    regsAfter (.wrIsaUnk 0x300020 0xFF 0xDEAD) (device distinct) = some distinct := by decide

/-- Program C, steps 8, 10 and 11, and I7. -/
theorem test_C8_C10_C11_records :
    recordsAfter (.wrAinMscUst 0xFF 0x1234) State.reset = some [⟨.ustMsc, .write, Config.base + 0x330020, 0x1234, 0xFF⟩] ∧
    recordsAfter (.rdUstMscUnk 0x330050 0xFF) State.reset = some [⟨.ustMsc, .read, Config.base + 0x330050, 0, 0xFF⟩] ∧
    recordsAfter (.wrCompare1 0x0F 0x1111111111111111) State.reset = some [⟨.ustMsc, .write, Config.base + 0x330008, 0x1111111111111111, 0x0F⟩] ∧
    recordsAfter (.rdIsaUnk 0x300020 0xFF) State.reset = some [⟨.isa, .read, Config.base + 0x300020, 0, 0xFF⟩] := by 
  exact ⟨rfl, rfl, rfl, rfl⟩

/-- B5, B6: a hole read changes no register and takes a free value of which nothing is known; a hole write does nothing. -/
theorem test_B5_B6_holes :
    dataAfter (.rdUnmapped 0x340000 0xFF) State.reset = some (Config.draw 0) ∧
    regsAfter (.rdUnmapped 0x340000 0xFF) (device distinct) = some distinct ∧
    after (.wrUnmapped 0x340000 0xFF 1) (device distinct) = some (device distinct) := by 
  exact ⟨rfl, rfl, rfl⟩

/-! ### The RTC bridge (section 2.5) -/

/-- K1 to K4: one call each, with index (A - 0x3A0000) / 32. -/
theorem test_K1_K4_rtc_reads :
    callsAfter (.rdRtc 0x3A0000 0xFF) State.reset = some [.read 0] ∧
    callsAfter (.rdRtc 0x3A0040 0xFF) State.reset = some [.read 2] ∧
    callsAfter (.rdRtc 0x3A0058 0xFF) State.reset = some [.read 2] ∧
    callsAfter (.rdRtc 0x3A0060 0xFF) State.reset = some [.read 3] ∧
    callsAfter (.rdRtc 0x3A7FF8 0xFF) State.reset = some [.read 1023] := by decide

/-- K5 to K7: bits 7:0 alone go out, whatever the mask. -/
theorem test_K5_K7_rtc_writes :
    callsAfter (.wrRtc 0x3A0060 0xFF 0x1234) State.reset = some [.write 3 0x34] ∧
    callsAfter (.wrRtc 0x3A0020 0xFF 0xFFFFFFFFFFFFFF00) State.reset = some [.write 1 0x00] ∧
    callsAfter (.wrRtc 0x3A0020 0x02 0xAB00) State.reset = some [.write 1 0x00] := by decide

/-- K8, K9: the oracle's whole 64-bit answer is driven and no register changes. -/
theorem test_K8_K9_rtc_answer :
    dataAfter (.rdRtc 0x3A0040 0xFF) State.reset = some (Config.rtcAnswer [] 2) ∧
    regsAfter (.rdRtc 0x3A0040 0xFF) (device distinct) = some distinct := by 
  exact ⟨rfl, rfl⟩

/-! ### Host events (section 2.6) -/

/-- H1, H7: everything zero, sources armed. -/
theorem test_H1_reset :
    after .reset (stopped distinct) = some (device Image.zero) := by decide

/-- H2: the registers are kept. -/
theorem test_H2_stop :
    after .stop (device (counters 3 0)) = some (stopped (counters 3 0)) := by decide

/-- H4: the image is the registers, and nothing else changes. -/
theorem test_H4_save :
    after .save (device distinct) = some { device distinct with saved := some distinct } := by decide

/-- H5, H6: the status is replaced whole, and nothing is evaluated; RUNNING is kept. -/
theorem test_H5_H6_restore :
    after (.restore distinct) (stopped Image.zero) = some (stopped distinct) ∧
    after (.restore Image.zero) (device distinct) = some (device Image.zero) ∧
    regsAfter (.restore { counters 4 4 with compare1 := 0x0000000400000004 }) State.reset = some { counters 4 4 with compare1 := 0x0000000400000004 } := by decide

/-! ### Address and lane fields -/

/-- R52, R55, R83, R201: the fields computed from an access. -/
theorem test_fields :
    laneMask 0xF0 = 0xFFFFFFFF00000000 ∧
    laneMask 0x01 = 0xFF ∧
    laneByte 1 0x1234 = 0x12 ∧
    laneIndex 0x330008 = 0x66001 ∧
    wordIndex .ustMsc 0x330048 = 9 ∧
    rtcIndex 0x3A0040 = 2 ∧
    rtcDatum 0x1234 = 0x34 ∧
    laneAddressUnder .laneZeroLowest 0x330008 0 = 0x330008 ∧
    laneAddressUnder .laneZeroHighest 0x330008 0 = 0x33000F := by decide

/-! ### Steps -/

/-- Program A, steps 1 and 5, as steps of the machine: a placed word runs as the next event. -/
theorem test_step_runs_placed_word :
    step ((stopped distinct).withFetchWord 25 0x1000000) = .next (device Image.zero) ∧
    step (State.reset.withFetchWord 25 0x1400000) = .next (stopped Image.zero) ∧
    step (State.reset.withFetchWord 25 0x0330001) = .refused .offsetNotAligned ∧
    step ((stopped distinct).withFetchWord 25 0x0330000) = .refused .busAccessWhileStopped :=
  ⟨rfl, rfl, rfl, rfl⟩

/-- S2: the match of the document's scenario sets the bit of COMPARE1, whatever its number, in the same event. -/
theorem test_S2_match_in_the_tick :
    (regsAfter .ftick (device { Image.zero with compare1 := 0x0000000100000000 })).map Image.intStatus
      = some (bitMask c1Bit) := by
  have h : (0 : Word) ||| bitMask c1Bit = bitMask c1Bit := BitVec.zero_or
  exact congrArg some h

/-- E13 and E14, before the coincidence: at (3124, 2) both ticks are due at once, and the order decides which of the
two pairs is passed through (R285). -/
theorem test_E13_E14_coincidence :
    let t : TimedState := { TimedState.reset with core := device (counters 3124 2), nextFast := 640, nextSlow := 640 }
    (match timedTickUnder .fast t with | .next u => some u.core.regs.ustMsc | _ => none) = some 0x00000C3500000002 ∧
    (match timedTickUnder .slow t with | .next u => some u.core.regs.ustMsc | _ => none) = some 0x00000C3400000003 := by
  decide

/-! ### Hypotheses that are met

For each statement with hypotheses, one state and operands that meet all of them together, and the ends of the ranges
its clauses speak of. -/

/-- A running device with every element different, a read of the RTC and a coherent RESTORE still to come. -/
def ready : State := { device distinct with timeline := [rdEvent 0x3A0000 0xFF, hostEvent .restore (counters 4 4)] }

theorem test_witness_TimebaseRegisterReadResults :
    ready.running = true ∧
    laneOk 0xFF = true ∧ laneOk 0x0F = false ∧
    (bareEvent 0x0330000).word = 0x0330000 ∧ (bareEvent 0x0330008).word = 0x0330008 ∧
    (bareEvent 0x0330010).word = 0x0330010 ∧ (bareEvent 0x0330018).word = 0x0330018 ∧
    (bareEvent 0x0330020).word = 0x0330020 ∧ (bareEvent 0x0330028).word = 0x0330028 ∧
    (bareEvent 0x0330030).word = 0x0330030 ∧ (bareEvent 0x0330038).word = 0x0330038 ∧
    (bareEvent 0x0330040).word = 0x0330040 ∧ (bareEvent 0x0330048).word = 0x0330048 := by decide

theorem test_witness_CompareRegisterWriteResults :
    ready.running = true ∧
    laneOk 0xFF = true ∧ laneOk 0x0F = false ∧
    (bareEvent 0x0730008).word = 0x0730008 ∧ (bareEvent 0x0730010).word = 0x0730010 ∧
    (bareEvent 0x0730018).word = 0x0730018 := by decide

theorem test_witness_CompositeWriteIsIgnored :
    ready.running = true ∧
    laneOk 0xFF = true ∧ laneOk 0x0F = false ∧
    (bareEvent 0x0730000).word = 0x0730000 := by decide

theorem test_witness_SnapshotWritesAreLoggedAndIgnored :
    ready.running = true ∧
    (bareEvent 0x0730020).word = 0x0730020 ∧ (bareEvent 0x0730028).word = 0x0730028 ∧
    (bareEvent 0x0730030).word = 0x0730030 ∧ (bareEvent 0x0730038).word = 0x0730038 ∧
    (bareEvent 0x0730040).word = 0x0730040 ∧ (bareEvent 0x0730048).word = 0x0730048 := by decide

theorem test_witness_UnknownTimebaseOffsetIsNoOp :
    ready.running = true ∧
    offsetBetween 0x330050 0x33FFF8 0x330050 = true ∧
    offsetBetween 0x330050 0x33FFF8 0x33FFF8 = true ∧
    offsetBetween 0x330050 0x33FFF8 0x330048 = false ∧
    offsetBetween 0x330050 0x33FFF8 0x340000 = false := by decide

theorem test_witness_IsaRegisterReadResults :
    ready.running = true ∧
    laneOk 0xFF = true ∧ laneOk 0x0F = false ∧
    (bareEvent 0x0300000).word = 0x0300000 ∧ (bareEvent 0x0300008).word = 0x0300008 ∧
    (bareEvent 0x0300010).word = 0x0300010 ∧ (bareEvent 0x0300018).word = 0x0300018 := by decide

theorem test_witness_IsaRegisterWriteResults :
    ready.running = true ∧
    laneOk 0xFF = true ∧ laneOk 0x0F = false ∧
    (bareEvent 0x0700000).word = 0x0700000 ∧ (bareEvent 0x0700008).word = 0x0700008 ∧
    (bareEvent 0x0700010).word = 0x0700010 ∧ (bareEvent 0x0700018).word = 0x0700018 := by decide

theorem test_witness_UnknownIsaOffsetIsNoOp :
    ready.running = true ∧
    offsetBetween 0x300020 0x30FFF8 0x300020 = true ∧
    offsetBetween 0x300020 0x30FFF8 0x30FFF8 = true ∧
    offsetBetween 0x300020 0x30FFF8 0x300018 = false ∧
    offsetBetween 0x300020 0x30FFF8 0x310000 = false := by decide

theorem test_witness_StubReadsGiveZero :
    ready.running = true ∧
    offsetBetween 0x000000 0x07FFF8 0x000000 = true ∧
    offsetBetween 0x000000 0x07FFF8 0x07FFF8 = true ∧
    offsetBetween 0x080000 0x0FFFF8 0x080000 = true ∧
    offsetBetween 0x080000 0x0FFFF8 0x0FFFF8 = true ∧
    offsetBetween 0x100000 0x17FFF8 0x100000 = true ∧
    offsetBetween 0x100000 0x17FFF8 0x17FFF8 = true ∧
    offsetBetween 0x180000 0x1FFFF8 0x180000 = true ∧
    offsetBetween 0x180000 0x1FFFF8 0x1FFFF8 = true ∧
    offsetBetween 0x200000 0x27FFF8 0x200000 = true ∧
    offsetBetween 0x200000 0x27FFF8 0x27FFF8 = true ∧
    offsetBetween 0x280000 0x2FFFF8 0x280000 = true ∧
    offsetBetween 0x280000 0x2FFFF8 0x2FFFF8 = true ∧
    offsetBetween 0x310000 0x31FFF8 0x310000 = true ∧
    offsetBetween 0x310000 0x31FFF8 0x31FFF8 = true ∧
    offsetBetween 0x320000 0x32FFF8 0x320000 = true ∧
    offsetBetween 0x320000 0x32FFF8 0x32FFF8 = true ∧
    offsetBetween 0x380000 0x39FFF8 0x380000 = true ∧
    offsetBetween 0x380000 0x39FFF8 0x39FFF8 = true := by decide

theorem test_witness_StubWritesAreDiscarded :
    ready.running = true ∧
    offsetBetween 0x000000 0x07FFF8 0x080000 = false ∧
    offsetBetween 0x080000 0x0FFFF8 0x07FFF8 = false ∧
    offsetBetween 0x080000 0x0FFFF8 0x080000 = true ∧
    offsetBetween 0x000000 0x07FFF8 0x000000 = true ∧
    offsetBetween 0x000000 0x07FFF8 0x07FFF8 = true ∧
    offsetBetween 0x080000 0x0FFFF8 0x080000 = true ∧
    offsetBetween 0x080000 0x0FFFF8 0x0FFFF8 = true ∧
    offsetBetween 0x100000 0x17FFF8 0x100000 = true ∧
    offsetBetween 0x100000 0x17FFF8 0x17FFF8 = true ∧
    offsetBetween 0x180000 0x1FFFF8 0x180000 = true ∧
    offsetBetween 0x180000 0x1FFFF8 0x1FFFF8 = true ∧
    offsetBetween 0x200000 0x27FFF8 0x200000 = true ∧
    offsetBetween 0x200000 0x27FFF8 0x27FFF8 = true ∧
    offsetBetween 0x280000 0x2FFFF8 0x280000 = true ∧
    offsetBetween 0x280000 0x2FFFF8 0x2FFFF8 = true ∧
    offsetBetween 0x310000 0x31FFF8 0x310000 = true ∧
    offsetBetween 0x310000 0x31FFF8 0x31FFF8 = true ∧
    offsetBetween 0x320000 0x32FFF8 0x320000 = true ∧
    offsetBetween 0x320000 0x32FFF8 0x32FFF8 = true ∧
    offsetBetween 0x380000 0x39FFF8 0x380000 = true ∧
    offsetBetween 0x380000 0x39FFF8 0x39FFF8 = true := by decide

theorem test_witness_HoleReadIsFreeAndHoleWriteDoesNothing :
    ready.running = true ∧
    offsetInHole 0x340000 = true ∧
    offsetInHole 0x37FFF8 = true ∧
    offsetInHole 0x3A8000 = true ∧
    offsetInHole 0x3FFFF8 = true ∧
    offsetInHole 0x380000 = false := by decide

theorem test_witness_RtcReadForwardsOneCall :
    ready.running = true ∧
    offsetBetween 0x3A0000 0x3A7FF8 0x3A0000 = true ∧
    offsetBetween 0x3A0000 0x3A7FF8 0x3A7FF8 = true := by decide

theorem test_witness_RtcWriteForwardsLowByte :
    ready.running = true ∧
    offsetBetween 0x3A0000 0x3A7FF8 0x3A0000 = true ∧
    offsetBetween 0x3A0000 0x3A7FF8 0x3A7FF8 = true ∧
    offsetBetween 0x3A0000 0x3A7FF8 0x3A8000 = false := by decide

theorem test_witness_FastTickResult :
    ready.running = true ∧
    (bareEvent 0x0800000).word = 0x0800000 ∧
    (countFast { counters 0 0 with compare1 := 0x0000000100000000 }).ustMsc = 0x0000000100000000 := by decide

theorem test_witness_SlowTickResult :
    ready.running = true ∧
    (bareEvent 0x0C00000).word = 0x0C00000 ∧
    (countSlow { counters 0 0 with compare3 := 1 }).ustMsc = 1 := by decide

theorem test_witness_ResetZeroesRegistersAndArmsSources :
    (bareEvent 0x1000000).word = 0x1000000 := by decide

theorem test_witness_StopHaltsBothSources :
    (bareEvent 0x1400000).word = 0x1400000 ∧ (stopped distinct).running = false ∧
    Instr.reset ∉ [Instr.save, .ftick, .stop] ∧ (∀ image, Instr.restore image ∉ [Instr.save, .ftick, .stop]) ∧
    runEvents [.save, .ftick, .stop] (stopped distinct) = .next { stopped distinct with saved := some distinct } :=
  ⟨by decide, by decide, by decide, by simp, rfl⟩

theorem test_witness_SaveGivesTheSixteenElements :
    (bareEvent 0x1800000).word = 0x1800000 := by decide

theorem test_witness_RestoreLoadsTheImage :
    (bareEvent 0x1C00000).word = 0x1C00000 := by decide

theorem test_witness_StoppedDeviceRefusesBusEvents :
    (stopped distinct).running = false ∧
    isBusEvent (.rdPci 0 0) = true ∧
    isBusEvent (.wrRtc 0x3A0000 0 0) = true ∧
    isBusEvent .stop = false := by decide

theorem test_witness_EveryEventOfARunningDeviceCompletes :
    ready.running = true := by decide

theorem test_witness_BusReadsChangeNoRegister :
    isBusRead (.rdUstMsc 0xFF) = true ∧ isBusRead (.wrUstMsc 0xFF 0) = false ∧ isBusRead .save = false ∧
    recognizedLanes (.rdUstMsc 0xFF) ≠ none ∧ recognizedLanes (.rdRtc 0x3A0000 0xFF) = none ∧
    exec (.rdUstMsc 0xFF) (device distinct) = .next { device distinct with rdata := some 0x0000000500000002 } :=
  ⟨by decide, by decide, by decide, by decide, by decide, rfl⟩

theorem test_witness_StepKeepsCompositeInvariant :
    CompositeInv ready ∧ CompositeInv { ready with timeline := ready.timeline.tail } ∧
    (∃ t, step ready = .next t) ∧
    (∃ t, step { ready with timeline := ready.timeline.tail } = .next t ∧ t.regs = counters 4 4) := by
  have h : CompositeInv ready := by unfold CompositeInv Coherent; decide
  exact ⟨h, ⟨h.1, fun e he => h.2 e (List.mem_cons_of_mem _ he)⟩, ⟨_, rfl⟩, ⟨_, rfl, rfl⟩⟩

theorem test_witness_CompositeInvariantHoldsAtReset :
    (∀ e ∈ ready.timeline, presentsRestore e = true → Coherent e.image) ∧ (∃ t, exec .reset ready = .next t) := by
  refine ⟨?_, _, rfl⟩
  unfold Coherent
  decide

theorem test_witness_CompositeIsExactInEveryRunFromReset :
    (∀ image, Instr.restore image ∈ [Instr.ftick, .restore (counters 4 4), .stick] → Coherent image) ∧
    (∃ t, runEvents [.reset, .ftick, .restore (counters 4 4), .stick] ready = .next t) := by
  refine ⟨fun image h => ?_, _, rfl⟩
  simp at h
  rw [h]
  rfl

theorem test_witness_StepKeepsSnapshotsZeroAndStatusClean :
    NoRestoreInv { State.reset with timeline := fticks 1 } ∧
    (∃ t, step { State.reset with timeline := fticks 1 } = .next t) := by
  refine ⟨⟨by unfold SnapshotsZero; decide, fun k _ _ _ => ?_, by decide⟩, _, rfl⟩
  exact BitVec.getLsbD_zero

theorem test_witness_NoRestoreInvariantHoldsAtReset :
    (∀ e ∈ (presentEvent (rdEvent 0 0xFF) (device distinct)).timeline, presentsRestore e = false) ∧
    (∃ t, exec .reset (presentEvent (rdEvent 0 0xFF) (device distinct)) = .next t) :=
  ⟨by decide, _, rfl⟩

theorem test_witness_StatusBitsStayUntilReset :
    (∀ image, Instr.restore image ∉ [Instr.ftick, .wrIntStatus 0xFF 0, .stick]) ∧
    Instr.reset ∉ [Instr.ftick, .wrIntStatus 0xFF 0, .stick] ∧
    (∃ t, runEvents [.reset, .ftick, .wrIntStatus 0xFF 0, .stick] ready = .next t) ∧
    (∃ t, runEvents [.ftick, .wrIntStatus 0xFF 0, .stick] ready = .next t) :=
  ⟨by simp, by decide, ⟨_, rfl⟩, ⟨_, rfl⟩⟩

theorem test_witness_TickSetsExactlyTheMatchingBits :
    isTick .ftick = true ∧ isTick .stick = true ∧ isTick .save = false ∧ ready.running = true := by decide

/-- One tick from a match of each of the three comparators. -/
def armed : State := device { Image.zero with compare1 := 1, compare2 := 1, compare3 := 1 }

theorem test_witness_MatchLatchesUntilReset :
    isTick .stick = true ∧ armed.running = true ∧ Instr.reset ∉ [Instr.rdIntStatus 0xFF] ∧
    (∀ image, Instr.restore image ∉ [Instr.rdIntStatus 0xFF]) ∧
    ∃ t u, exec .stick armed = .next t ∧ runEvents [.rdIntStatus 0xFF] t = .next u ∧
      t.regs.ustMsc = t.regs.compare1 ∧ t.regs.ustMsc = t.regs.compare2 ∧ t.regs.ustMsc = t.regs.compare3 :=
  ⟨rfl, rfl, by decide, by simp, _, _, rfl, rfl, rfl, rfl, rfl⟩

theorem test_witness_OnlyTicksEvaluateCompares :
    (∃ t, exec .reset ready = .next t) ∧ (∃ t, exec (.restore distinct) ready = .next t) ∧
    isTick (.wrCompare1 0xFF 7) = false ∧ (∃ t, exec (.wrCompare1 0xFF 7) ready = .next t) ∧
    ∃ t, exec .stick armed = .next t ∧ (∀ image, Instr.stick ≠ .restore image) ∧
      armed.regs.intStatus.getLsbD c1Bit = false ∧ t.regs.intStatus.getLsbD c1Bit = true := by
  refine ⟨⟨_, rfl⟩, ⟨_, rfl⟩, rfl, ⟨_, rfl⟩, _, rfl, nofun, BitVec.getLsbD_zero, ?_⟩
  show (statusAfterCompare c1Bit c2Bit c3Bit _).getLsbD c1Bit = true
  rw [statusAfterCompare_getLsbD]
  have h : c1Bit < 64 := c1Bit_lt
  simp [h, armed, device, countSlow, compose, ustHalf, Image.zero]

theorem test_witness_CountersCountTheirTicks :
    ∀ i ∈ [Instr.ftick, .stick, .rdUstMsc 0xFF, .save, .ftick], interruptsCounting i = false := by decide

theorem test_witness_RegistersHaveOnlyTheirWriters :
    (∃ t, exec .ftick ready = .next t ∧ t.regs.ust ≠ ready.regs.ust ∧ t.regs.ustMsc ≠ ready.regs.ustMsc) ∧
    (∃ t, exec .stick ready = .next t ∧ t.regs.msc ≠ ready.regs.msc) ∧
    (∃ t, exec (.wrCompare1 0xFF 7) ready = .next t ∧ t.regs.compare1 ≠ ready.regs.compare1) ∧
    (∃ t, exec (.wrIntMask 0xFF 7) ready = .next t ∧ t.regs.intMask ≠ ready.regs.intMask) ∧
    (∃ t, exec .stop ready = .next t ∧ t.running ≠ ready.running) :=
  ⟨⟨_, rfl, by decide, by decide⟩, ⟨_, rfl, by decide⟩, ⟨_, rfl, by decide⟩, ⟨_, rfl, by decide⟩, ⟨_, rfl, by decide⟩⟩

theorem test_witness_WrittenRegisterReadsBack :
    ready.running = true := by decide

theorem test_witness_WritingThePresentValueDoesNotMatch :
    ready.running = true ∧ Coherent ready.regs ∧ isTick .ftick = true ∧ isTick .stick = true :=
  ⟨rfl, rfl, rfl, rfl⟩

theorem test_witness_TickOrderShowsOnlyInTheStatus :
    ready.running = true ∧ Coherent ready.regs ∧ isTick .ftick = true ∧ isTick .stick = true :=
  ⟨rfl, rfl, rfl, rfl⟩

theorem test_witness_SubWordAccessNeverMergesLanes :
    (0x0F : Lanes) ≠ 0xFF ∧
    (0x00 : Lanes) ≠ 0xFF ∧
    (0xFE : Lanes) ≠ 0xFF := by decide

theorem test_witness_AnomaliesAppendOneRecord :
    ready.running = true ∧ (∃ t, exec (.rdPci 0 0xFF) ready = .next t) ∧
    anomalyA (.rdPci 0 0xFF) = true ∧ anomalyB (.wrIntMask 0x0F 0) = true ∧ writesSnapshot (.wrVoutMscUst 0xFF 0) = true ∧
    anomalyA .ftick = false ∧ anomalyB (.wrIntMask 0xFF 0) = false ∧ anomalyA (.rdUnmapped 0x340000 0) = false :=
  ⟨rfl, ⟨_, rfl⟩, by decide⟩

theorem test_witness_MaskIsStoredAndAppliedToNothing :
    touchesMask .ftick = false ∧
    touchesMask (.rdIntStatus 0xFF) = false ∧
    touchesMask (.wrIntMask 0xFF 0) = true := by decide

theorem test_witness_AbsoluteAddressIsBlockBasePlusLane :
    blockAt 0x000000 = some .pci ∧ (0x000000 : Offset).toNat % 8 = 0 ∧
    blockAt 0x3A7FF8 = some .rtc ∧ (0x3A7FF8 : Offset).toNat % 8 = 0 := by decide

theorem test_witness_RtcSlotsAlias :
    0x3A0000 ≤ (0x3A0000 : Offset).toNat ∧ (0x3A0000 : Offset).toNat ≤ 0x3A7FFF ∧
    0x3A0000 ≤ (0x3A7FFF : Offset).toNat ∧ (0x3A7FFF : Offset).toNat ≤ 0x3A7FFF ∧
    rtcIndex 0x3A0040 = rtcIndex 0x3A0058 ∧ rtcIndex 0x3A0058 ≠ rtcIndex 0x3A0060 := by decide

theorem test_witness_DecodeInvertsEncode :
    Instr.wellFormed (.wrUstMscUnk 0x33FFF8 0x0F 0x1234) = true ∧
    Instr.wellFormed (.restore distinct) = true ∧
    Instr.wellFormed (.rdPci 4 0) = false := by decide

theorem test_witness_EncodeInvertsDecode :
    decode ⟨0x0730008, 0x0F, 7, Image.zero⟩ = .event (.wrCompare1 0x0F 7) ∧
    decode ⟨0x1C00000, 3, 9, distinct⟩ = .event (.restore distinct) := by decide

theorem test_witness_DecodePicksTheMostSpecificRow :
    decode (bareEvent 0x0330050) = .event (.rdUstMscUnk 0x330050 0) ∧
    decode (bareEvent 0x0330048) = .event (.rdVoutMscUst 0) := by decide

theorem test_witness_OperandsTakeNoPartInDecode :
    (⟨0x0730008, 0x0F, 7, Image.zero⟩ : Event).word = (⟨0x0730008, 0xFF, 9, distinct⟩ : Event).word ∧
    (⟨0x0730008, 0x0F, 7, Image.zero⟩ : Event) ≠ ⟨0x0730008, 0xFF, 9, distinct⟩ := by decide

theorem test_witness_StepRunsTheDecodedEvent :
    ready.timeline = rdEvent 0x3A0000 0xFF :: ready.timeline.tail ∧
    decode (rdEvent 0x3A0000 0xFF) = .event (.rdRtc 0x3A0000 0xFF) ∧
    0x0330000 < 2 ^ 25 ∧
    decodeTableWord 25 0x0330000 = some (.rdUstMsc 0) := by decide

theorem test_witness_NonEventWordsAreRefused :
    (presentEvent (bareEvent 0x0330004) ready).timeline = bareEvent 0x0330004 :: ready.timeline ∧
    (kindField (bareEvent 0x0330004).word).toNat < 2 ∧ (offsetField (bareEvent 0x0330004).word).toNat % 8 ≠ 0 ∧
    (presentEvent (bareEvent 0x0800008) ready).timeline = bareEvent 0x0800008 :: ready.timeline ∧
    2 ≤ (kindField (bareEvent 0x0800008).word).toNat ∧ offsetField (bareEvent 0x0800008).word ≠ 0 := by decide

theorem test_witness_IdleStepTicksOneSource :
    State.reset.timeline = [] ∧ State.reset.running = true ∧
    (stopped distinct).timeline = [] ∧ (stopped distinct).running = false := by decide

theorem test_witness_TimedTicksAreUntimedTicks :
    TimedState.reset.core.running = true := by decide

/-- A timed device 1 000 ns after RESET: one fast tick has happened, 40 ns ago, and no slow one. -/
def timed : TimedState where
  core := device (counters 1 0)
  nextFast := 920
  nextSlow := 999000
  elapsed := 1000
  coincidences := 0

theorem test_witness_TimedCountersAreElapsedOverPeriod :
    TimedInv timed ∧ 0 < timed.nextFast ∧ 0 < timed.nextSlow ∧
    (∃ t, timedTickUnder .fast timed = .next t ∧ t.elapsed = 1920 ∧ t.core.regs.ust = 2) ∧
    (timedWait 5000 timed).elapsed = 1920 ∧
    (∃ t, timedEvent (.wrCompare1 0xFF 7) timed = .next t) ∧ (∃ t, timedEvent .stop timed = .next t) ∧
    (∀ image, Instr.stop ≠ .restore image) :=
  ⟨⟨by decide, by decide, ⟨1, by decide, by decide⟩, ⟨0, by decide, by decide⟩⟩, by decide, by decide,
    ⟨_, rfl, by decide, by decide⟩, by decide, ⟨_, rfl⟩, ⟨_, rfl⟩, nofun⟩

theorem test_witness_TimedInvariantHoldsAtReset :
    ∃ t, timedEvent .reset { timed with core := stopped distinct } = .next t := ⟨_, rfl⟩

/-- An endless execution from RESET: after each state the one step answers. -/
def fromReset : Nat → State
  | 0 => State.reset
  | n + 1 =>
    match step (fromReset n) with
    | .next t => t
    | .fault _ => fromReset n
    | .refused _ => fromReset n

theorem test_witness_BothSourcesTickWithoutEnd :
    EndlessRun fromReset ∧ ∀ n, ∃ m, n ≤ m ∧ (fromReset m).running = true := by
  have idle : ∀ s : State, s.timeline = [] → s.running = true →
      ∃ t, step s = .next t ∧ t.timeline = [] ∧ t.running = true := by
    intro s ht hr
    rw [step_idle ht hr, exec_tickEvent (by exact hr)]
    cases nextTick s.choices <;> exact ⟨_, rfl, ht, hr⟩
  have run : ∀ n, (fromReset n).timeline = [] ∧ (fromReset n).running = true := by
    intro n
    induction n with
    | zero => exact ⟨rfl, rfl⟩
    | succ n ih =>
      obtain ⟨t, h, h'⟩ := idle _ ih.1 ih.2
      simpa only [fromReset, h] using h'
  refine ⟨fun n => ?_, fun n => ⟨n, le_rfl, (run n).2⟩⟩
  obtain ⟨t, h, _⟩ := idle _ (run n).1 (run n).2
  simp only [fromReset, h]

theorem test_witness_CoincidentTicksAdmitBothOrders :
    let t : TimedState := { TimedState.reset with core := ready, nextFast := 640, nextSlow := 640 }
    t.core.running = true ∧ Coherent t.core.regs ∧ t.nextFast = t.nextSlow := ⟨rfl, rfl, rfl⟩

theorem test_witness_TimedEventsTakeNoTimeAndResetArms :
    Instr.save ≠ .reset ∧ isTick .save = false ∧ (∃ c, exec .save TimedState.reset.core = .next c) :=
  ⟨by decide, rfl, _, rfl⟩

theorem test_witness_SplitViewShowsTheComposite :
    Coherent ready.regs ∧ ustView ready = 5 ∧ mscView ready = 2 := ⟨rfl, rfl, rfl⟩

end Sys2Proof.Tests
end

section
/-! PROOF. What every completing event does to the sixteen elements, to RUNNING and to the timeline, said once; the same
for a step; and the packaged inductions over a step and over a list of events. -/

namespace Sys2Proof.Machine

open Sys2Proof

/-! ### Everything an event does to the registers -/

/-- What a recognized register that held `old` holds after a write of `d` under the lane mask `be` (R142, R160). -/
def storedValue (be : Lanes) (d old : Word) : Word := if laneOk be then d else old

/-- The sixteen elements after an event that completes, in a device running or stopped before it. -/
def eventRegs (running : Bool) (r : Image) : Instr → Image
  | .wrCompare1 be d => { r with compare1 := storedValue be d r.compare1 }
  | .wrCompare2 be d => { r with compare2 := storedValue be d r.compare2 }
  | .wrCompare3 be d => { r with compare3 := storedValue be d r.compare3 }
  | .wrRingbase be d => { r with ringbase := storedValue be d r.ringbase }
  | .wrFlashNicCtrl be d => { r with flashNicCtrl := storedValue be d r.flashNicCtrl }
  | .wrIntMask be d => { r with intMask := storedValue be d r.intMask }
  | .ftick => if running then fastTick r else r
  | .stick => if running then slowTick r else r
  | .reset => Image.zero
  | .restore image => image
  | _ => r

/-- RUNNING after an event that completes (R21). -/
def eventRunning (running : Bool) : Instr → Bool
  | .reset => true
  | .stop => false
  | _ => running

/-- Every event that answers a next state: the registers and RUNNING after it, and the timeline, which it keeps. -/
theorem exec_eq_next {i : Instr} {s t : State} (h : exec i s = .next t) :
    t.regs = eventRegs s.running s.regs i ∧ t.running = eventRunning s.running i ∧ t.timeline = s.timeline := by
  cases i with
  | ftick | stick =>
    cases h
    exact ⟨tickIfRunning_regs _ s, tickIfRunning_running _ s, tickIfRunning_timeline _ s⟩
  | reset | stop | save | restore =>
    cases h
    exact ⟨rfl, rfl, rfl⟩
  | wrCompare1 be | wrCompare2 be | wrCompare3 be | wrRingbase be | wrFlashNicCtrl be | wrIntMask be =>
    obtain ⟨-, rfl⟩ := busAccess_eq_next.mp h
    refine ⟨(writeRegister_regs ..).trans ?_, writeRegister_running .., writeRegister_timeline ..⟩
    unfold eventRegs storedValue laneOk
    cases hl : laneOkUnder lanePolicy be <;> simp [hl]
  | wrUstMsc | wrIntStatus =>
    obtain ⟨-, rfl⟩ := busAccess_eq_next.mp h
    exact ⟨(writeRegister_regs ..).trans (ite_self _), writeRegister_running .., writeRegister_timeline ..⟩
  | rdUstMsc | rdCompare1 | rdCompare2 | rdCompare3 | rdAinMscUst | rdAout1MscUst | rdAout2MscUst | rdVin1MscUst
  | rdVin2MscUst | rdVoutMscUst | rdRingbase | rdFlashNicCtrl | rdIntStatus | rdIntMask =>
    obtain ⟨-, rfl⟩ := busAccess_eq_next.mp h
    exact ⟨readRegister_regs .., readRegister_running .., readRegister_timeline ..⟩
  | _ =>
    obtain ⟨-, rfl⟩ := busAccess_eq_next.mp h
    exact ⟨rfl, rfl, rfl⟩

theorem exec_regs {i : Instr} {s t : State} (h : exec i s = .next t) : t.regs = eventRegs s.running s.regs i :=
  (exec_eq_next h).1

theorem exec_timeline {i : Instr} {s t : State} (h : exec i s = .next t) : t.timeline = s.timeline :=
  (exec_eq_next h).2.2

/-! ### Everything a step can do -/

/-- A step that answers a next state runs the first listed event, or ticks a source where nothing is listed, or leaves
a stopped device with nothing listed as it is. -/
theorem step_eq_next {s t : State} (h : step s = .next t) :
    (∃ e rest i, s.timeline = e :: rest ∧ decode e = .event i ∧ exec i { s with timeline := rest } = .next t) ∨
    (s.timeline = [] ∧ ∃ source, exec (tickEvent source) { s with choices := s.choices + 1 } = .next t) ∨
    (s.timeline = [] ∧ t = s) := by
  obtain ⟨e, rest, i, hl, hd, hs⟩ | ⟨e, rest, why, -, -, hs⟩ | ⟨hl, -, hs | hs⟩ | ⟨hl, -, hs⟩ :=
    step_cases s <;> rw [hs] at h
  · exact .inl ⟨e, rest, i, hl, hd, h⟩
  · cases h
  · exact .inr (.inl ⟨hl, .fast, h⟩)
  · exact .inr (.inl ⟨hl, .slow, h⟩)
  · cases h
    exact .inr (.inr ⟨hl, rfl⟩)

/-- A step takes the first event off the timeline and keeps the rest. -/
theorem step_timeline {s t : State} (h : step s = .next t) : t.timeline = s.timeline.tail := by
  obtain ⟨e, rest, i, hl, -, hx⟩ | ⟨hl, source, hx⟩ | ⟨hl, rfl⟩ := step_eq_next h
  · rw [exec_timeline hx, hl, List.tail_cons]
  · rw [exec_timeline hx, hl, List.tail_nil]
  · rw [hl, List.tail_nil]

/-- A run of a list that completes is its first event and then a run of the rest. -/
theorem runEvents_cons_eq_next {i : Instr} {l : List Instr} {s t : State} :
    runEvents (i :: l) s = .next t ↔ ∃ u, exec i s = .next u ∧ runEvents l u = .next t := by
  rw [runEvents]
  cases exec i s <;> simp

/-! ### Properties of the registers that a class of events keeps -/

/-- Every event of the class `allowed` keeps the property `P` of the registers. -/
def Keeps (allowed : Instr → Prop) (P : Image → Prop) : Prop :=
  ∀ i, allowed i → ∀ running r, P r → P (eventRegs running r i)

/-- The events other than a RESTORE of an image without the property `Q`. -/
def RestoresOnly (Q : Image → Prop) (i : Instr) : Prop := ∀ image, i = .restore image → Q image

theorem restoresOnly_tickEvent (Q : Image → Prop) (source : TickSource) : RestoresOnly Q (tickEvent source) := by
  cases source <;> exact nofun

variable {allowed : Instr → Prop} {P Q : Image → Prop} {s t : State}

theorem Keeps.after_exec (hk : Keeps allowed P) {i : Instr} (hi : allowed i) (hs : P s.regs) (h : exec i s = .next t) :
    P t.regs := by
  rw [exec_regs h]
  exact hk i hi s.running s.regs hs

/-- A property that each event of a class keeps holds after every list of them. -/
theorem Keeps.after_runEvents (hk : Keeps allowed P) {l : List Instr} (hl : ∀ i ∈ l, allowed i) (hs : P s.regs)
    (h : runEvents l s = .next t) : P t.regs := by
  induction l generalizing s with
  | nil =>
    cases h
    exact hs
  | cons i l ih =>
    obtain ⟨hi, hl⟩ := List.forall_mem_cons.mp hl
    obtain ⟨u, hx, hr⟩ := runEvents_cons_eq_next.mp h
    exact ih hl (hk.after_exec hi hs hx) hr

/-- A property that each event of a class keeps is kept by a step, if the listed events and the ticks are of it. -/
theorem Keeps.after_step (hk : Keeps allowed P) (hticks : ∀ source, allowed (tickEvent source))
    (hl : ∀ e ∈ s.timeline, ∀ i, decode e = .event i → allowed i) (hs : P s.regs) (h : step s = .next t) :
    P t.regs := by
  obtain ⟨e, rest, i, htl, hd, hx⟩ | ⟨-, source, hx⟩ | ⟨-, rfl⟩ := step_eq_next h
  · have hi : allowed i := hl e (by simp [htl]) i hd
    exact hk.after_exec hi (s := { s with timeline := rest }) hs hx
  · exact hk.after_exec (hticks source) (s := { s with choices := s.choices + 1 }) hs hx
  · exact hs

/-! ### Where a RESTORE comes from -/

theorem isBusEvent_busReadEvent (a : Offset) (be : Lanes) : isBusEvent (busReadEvent a be) = true := by
  unfold busReadEvent
  split
  case h_2 => cases timebaseRegAt (a - firstOffset .ustMsc) with
    | none => rfl
    | some r => cases r <;> rfl
  case h_3 => cases isaRegAt (a - firstOffset .isa) with
    | none => rfl
    | some r => cases r <;> rfl
  all_goals rfl

theorem isBusEvent_busWriteEvent (a : Offset) (be : Lanes) (d : Word) : isBusEvent (busWriteEvent a be d) = true := by
  unfold busWriteEvent
  split
  case h_2 => cases timebaseRegAt (a - firstOffset .ustMsc) with
    | none => rfl
    | some r => cases r <;> rfl
  case h_3 => cases isaRegAt (a - firstOffset .isa) with
    | none => rfl
    | some r => cases r <;> rfl
  all_goals rfl

/-- Only a presented RESTORE decodes to one, and the image it restores is the one beside its word (R81). -/
theorem decode_eq_restore {e : Event} {image : Image} (h : decode e = .event (.restore image)) :
    presentsRestore e = true ∧ e.image = image := by
  unfold presentsRestore
  unfold decode at h
  cases hk : kindOf (kindField e.word) <;> rw [hk] at h
  case busRead =>
    have hb := isBusEvent_busReadEvent (offsetField e.word) e.be
    rw [(ifAligned_eq_event.mp h).2] at hb
    cases hb
  case busWrite =>
    have hb := isBusEvent_busWriteEvent (offsetField e.word) e.be e.data
    rw [(ifAligned_eq_event.mp h).2] at hb
    cases hb
  case restore =>
    have hi := (ifZero_eq_event.mp h).2
    exact ⟨rfl, by simpa using hi⟩
  all_goals cases (ifZero_eq_event.mp h).2

/-- With no presented RESTORE of an image without `Q`, no listed event decodes to one. -/
theorem restoresOnly_of_timeline (hl : ∀ e ∈ s.timeline, presentsRestore e = true → Q e.image) :
    ∀ e ∈ s.timeline, ∀ i, decode e = .event i → RestoresOnly Q i := by
  rintro e he i hd image rfl
  obtain ⟨hp, rfl⟩ := decode_eq_restore hd
  exact hl e he hp

end Sys2Proof.Machine
end

section
/-! PROOF. The statements of 10_state.md: the composite invariant (R27), the snapshots and the status word without
RESTORE (R30, R34), and the writers of each register. -/

namespace Sys2Proof.Machine

open Sys2Proof

/-! ### The composite -/

theorem coherent_zero : Coherent Image.zero := by
  unfold Coherent
  decide

theorem coherent_fastTick {r : Image} (h : Coherent r) : Coherent (fastTick r) := by
  unfold Coherent at h ⊢
  simp [h]

theorem coherent_slowTick {r : Image} (h : Coherent r) : Coherent (slowTick r) := by
  unfold Coherent at h ⊢
  simp [h]

/-- Every event keeps the composite exact, but for a RESTORE of an image in which it is not (R27). -/
theorem keeps_coherent : Keeps (RestoresOnly Coherent) Coherent := by
  intro i hi running r hr
  cases i with
  | ftick => cases running with
    | true => exact coherent_fastTick hr
    | false => exact hr
  | stick => cases running with
    | true => exact coherent_slowTick hr
    | false => exact hr
  | reset => exact coherent_zero
  | restore image => exact hi image rfl
  | _ => exact hr

/-! ### The snapshots and the status word -/

theorem onlyCompareBits_zero : OnlyCompareBits Image.zero := fun _ _ _ _ => BitVec.getLsbD_zero

theorem onlyCompareBits_compareEvaluate {r : Image} (h : OnlyCompareBits r) : OnlyCompareBits (compareEvaluate r) := by
  intro k h1 h2 h3
  simp [statusAfterCompare_getLsbD, h k h1 h2 h3, h1, h2, h3]

/-- Compare evaluation clears no status bit (R103). -/
theorem bitsWithin_compareEvaluate (r : Image) : BitsWithin r.intStatus (compareEvaluate r).intStatus := by
  intro k hk
  simp [statusAfterCompare_getLsbD, hk]

/-- Every event but RESTORE keeps the snapshots zero: none writes them, and RESET zeroes them (R30). -/
theorem keeps_snapshotsZero : Keeps (RestoresOnly fun _ => False) SnapshotsZero := by
  intro i hi running r hr
  cases i with
  | ftick | stick => cases running <;> exact hr
  | reset => exact ⟨rfl, rfl, rfl, rfl, rfl, rfl⟩
  | restore image => exact (hi image rfl).elim
  | _ => exact hr

/-- Every event but RESTORE keeps the status word free of all but the compare bits (R34). -/
theorem keeps_onlyCompareBits : Keeps (RestoresOnly fun _ => False) OnlyCompareBits := by
  intro i hi running r hr
  cases i with
  | ftick | stick => cases running with
    | true => exact onlyCompareBits_compareEvaluate hr
    | false => exact hr
  | reset => exact onlyCompareBits_zero
  | restore image => exact (hi image rfl).elim
  | _ => exact hr

/-- Every event but RESET and RESTORE keeps every status bit that is set (R34). -/
theorem keeps_bitsWithin (v : Word) :
    Keeps (fun i => i ≠ .reset ∧ RestoresOnly (fun _ => False) i) fun r => BitsWithin v r.intStatus := by
  rintro i ⟨hreset, hi⟩ running r hr
  cases i with
  | ftick | stick => cases running with
    | true => exact fun k hk => bitsWithin_compareEvaluate _ k (hr k hk)
    | false => exact hr
  | reset => exact absurd rfl hreset
  | restore image => exact (hi image rfl).elim
  | _ => exact hr

theorem restoresOnly_of_not_mem {l : List Instr} (h : ∀ image, .restore image ∉ l) :
    ∀ i ∈ l, RestoresOnly (fun _ => False) i := by
  rintro i hi image rfl
  exact h image hi

end Sys2Proof.Machine

namespace Sys2Proof.Proofs

open Sys2Proof Sys2Proof.Machine

/-! ### The statements -/

/-- Settles O23: the registers by `keeps_coherent`, the images still to come because a step only takes events off. -/
theorem stepKeepsCompositeInvariant : Obligations.StepKeepsCompositeInvariant := by
  rintro s t ⟨hregs, himages⟩ h
  refine ⟨keeps_coherent.after_step (restoresOnly_tickEvent _) (restoresOnly_of_timeline himages) hregs h, ?_⟩
  rw [step_timeline h]
  exact fun e he => himages e (List.mem_of_mem_tail he)

/-- Settles O26: as O23, with the class of events that restore no image. -/
theorem stepKeepsSnapshotsZeroAndStatusClean : Obligations.StepKeepsSnapshotsZeroAndStatusClean := by
  rintro s t ⟨hsnapshots, hstatus, hlist⟩ h
  have hevents := restoresOnly_of_timeline (Q := fun _ => False) (s := s) fun e he hp => by simp [hlist e he] at hp
  refine ⟨keeps_snapshotsZero.after_step (restoresOnly_tickEvent _) hevents hsnapshots h,
    keeps_onlyCompareBits.after_step (restoresOnly_tickEvent _) hevents hstatus h, ?_⟩
  rw [step_timeline h]
  exact fun e he => hlist e (List.mem_of_mem_tail he)

/-- Settles O25: RESET makes the composite exact, and every event after it keeps it so. -/
theorem compositeIsExactInEveryRunFromReset : Obligations.CompositeIsExactInEveryRunFromReset := by
  intro l s t himages h
  obtain ⟨u, hreset, hrun⟩ := runEvents_cons_eq_next.mp h
  cases hreset
  refine keeps_coherent.after_runEvents ?_ coherent_zero hrun
  rintro i hi image rfl
  exact himages image hi

/-- Settles O28: RESET clears the status word, and every event without RESTORE keeps it to the compare bits; every event
without RESET too keeps the bits that are set. -/
theorem statusBitsStayUntilReset : Obligations.StatusBitsStayUntilReset := by
  constructor
  · intro l s t hl h
    obtain ⟨u, hreset, hrun⟩ := runEvents_cons_eq_next.mp h
    cases hreset
    exact keeps_onlyCompareBits.after_runEvents (restoresOnly_of_not_mem hl) onlyCompareBits_zero hrun
  · intro l s t hl hreset h
    refine (keeps_bitsWithin s.regs.intStatus).after_runEvents (fun i hi => ⟨?_, restoresOnly_of_not_mem hl i hi⟩)
      (fun _ hk => hk) h
    rintro rfl
    exact hreset hi

/-- Settles O33: by the event, from what each does to the registers and to RUNNING (`exec_eq_next`). -/
theorem registersHaveOnlyTheirWriters : Obligations.RegistersHaveOnlyTheirWriters := by
  intro i s t h hreset hrestore
  obtain ⟨hregs, hrunning, -⟩ := exec_eq_next h
  rw [hregs, hrunning]
  cases i with
  | reset => exact absurd rfl hreset
  | restore image => exact absurd rfl (hrestore image)
  | ftick | stick =>
    unfold eventRegs
    cases s.running <;> simp [eventRunning]
  | wrCompare1 | wrCompare2 | wrCompare3 | wrRingbase | wrFlashNicCtrl | wrIntMask | stop =>
    -- each is the named writer of the one thing it changes
    unfold eventRegs
    simp [eventRunning]
  | _ =>
    -- neither the registers nor RUNNING change
    unfold eventRegs
    simp [eventRunning]

/-- Settles O24: RESET leaves every element zero, and the timeline as it was. -/
theorem compositeInvariantHoldsAtReset : Obligations.CompositeInvariantHoldsAtReset := by
  refine ⟨⟨coherent_zero, nofun⟩, fun s t himages h => ?_⟩
  cases h
  exact ⟨coherent_zero, himages⟩

/-- Settles O27: as O24, with all six snapshots and the whole status word zero. -/
theorem noRestoreInvariantHoldsAtReset : Obligations.NoRestoreInvariantHoldsAtReset := by
  have hzero : SnapshotsZero Image.zero := ⟨rfl, rfl, rfl, rfl, rfl, rfl⟩
  refine ⟨⟨⟨hzero, onlyCompareBits_zero, nofun⟩, rfl⟩, fun s t hlist h => ?_⟩
  cases h
  exact ⟨⟨hzero, onlyCompareBits_zero, hlist⟩, rfl⟩

end Sys2Proof.Proofs
end

section
/-! PROOF. The statements of 20_memory.md: the address map by intervals and by top bits (R60, R86), the event of a bus
access as the handler of the block at its offset (R53), what a bus read leaves as it was (R59), and what a register
reads back (R72). -/

namespace Sys2Proof.Machine

open Sys2Proof

/-! ### The address map (R60, R61, R86) -/

/-- The first offset past a block (R60). -/
def blockEnd : Block → Nat
  | .pci    => 0x080000
  | .vin1   => 0x100000
  | .vin2   => 0x180000
  | .vout   => 0x200000
  | .enet   => 0x280000
  | .audio  => 0x300000
  | .isa    => 0x310000
  | .kbdms  => 0x320000
  | .i2c    => 0x330000
  | .ustMsc => 0x340000
  | .isaExt => 0x3A0000
  | .rtc    => 0x3A8000

/-- An offset is in a block exactly from the block's first offset to its end. -/
theorem blockAt_eq_some_iff {a : Offset} {b : Block} :
    blockAt a = some b ↔ (firstOffset b).toNat ≤ a.toNat ∧ a.toNat < blockEnd b := by
  constructor
  · intro h
    rcases blockAt_cases a with ⟨hb, h'⟩ | ⟨hb, h'⟩ | ⟨hb, h'⟩ | ⟨hb, h'⟩ | ⟨hb, h'⟩ | ⟨hb, h'⟩ | ⟨hb, h'⟩ | ⟨hb, h'⟩ |
      ⟨hb, h'⟩ | ⟨hb, h'⟩ | ⟨hb, h'⟩ | ⟨hb, h'⟩ | ⟨hb, h'⟩ | ⟨hb, h'⟩ <;> cases hb.symm.trans h
    · exact ⟨Nat.zero_le _, h'⟩
    all_goals exact h'
  · rintro ⟨hfirst, hend⟩
    rw [blockAt_eq]
    cases b <;> simp only [firstOffset, blockEnd, BitVec.reduceToNat] at hfirst hend <;>
      simp (disch := omega) only [if_pos, if_neg]

/-- An offset is in no block exactly in the two gaps. -/
theorem blockAt_eq_none_iff {a : Offset} :
    blockAt a = none ↔ (0x340000 ≤ a.toNat ∧ a.toNat ≤ 0x37FFFF) ∨ 0x3A8000 ≤ a.toNat := by
  constructor
  · intro h
    rcases blockAt_cases a with ⟨hb, h'⟩ | ⟨hb, h'⟩ | ⟨hb, h'⟩ | ⟨hb, h'⟩ | ⟨hb, h'⟩ | ⟨hb, h'⟩ | ⟨hb, h'⟩ | ⟨hb, h'⟩ |
      ⟨hb, h'⟩ | ⟨hb, h'⟩ | ⟨hb, h'⟩ | ⟨hb, h'⟩ | ⟨hb, h'⟩ | ⟨hb, h'⟩ <;> cases hb.symm.trans h
    all_goals omega
  · intro h
    rw [blockAt_eq]
    rcases h with h | h <;> simp (disch := omega) only [if_pos, if_neg]

/-- The bits of an offset from bit `k` up are `v` exactly between two multiples of `2 ^ k`. -/
theorem topBits_eq_iff {k n : Nat} (hk : k + n = 22) (a : Offset) (v : BitVec n) :
    a.extractLsb' k n = v ↔ v.toNat * 2 ^ k ≤ a.toNat ∧ a.toNat < (v.toNat + 1) * 2 ^ k := by
  have hlt : a.toNat / 2 ^ k < 2 ^ n := by
    rw [Nat.div_lt_iff_lt_mul (Nat.two_pow_pos k), ← Nat.pow_add, Nat.add_comm n k, hk]
    exact a.isLt
  rw [← BitVec.toNat_inj, BitVec.extractLsb'_toNat, Nat.shiftRight_eq_div_pow, Nat.mod_eq_of_lt hlt,
    Nat.div_eq_iff (Nat.two_pow_pos k)]
  have := Nat.two_pow_pos k
  rw [Nat.add_mul]
  omega

/-- A block that is all the offsets with top bits `v` is selected by them. -/
theorem blockAt_eq_some_iff_topBits {a : Offset} {b : Block} {k n : Nat} {v : BitVec n} (hk : k + n = 22)
    (hfirst : (firstOffset b).toNat = v.toNat * 2 ^ k) (hend : blockEnd b = (v.toNat + 1) * 2 ^ k) :
    blockAt a = some b ↔ a.extractLsb' k n = v := by
  rw [blockAt_eq_some_iff, topBits_eq_iff hk, hfirst, hend]

/-! ### Block-relative offsets (R63, R83) -/

/-- `First(blk) + boff = A`. -/
@[simp] theorem firstOffset_add_blockOffset (b : Block) (a : Offset) : firstOffset b + blockOffset b a = a :=
  (BitVec.add_comm ..).trans (BitVec.sub_add_cancel a (firstOffset b))

theorem firstOffset_aligned (b : Block) : (firstOffset b).toNat % 8 = 0 := by
  cases b <;> rfl

/-- At an aligned offset of a block, the lane index counts the words from the block's first offset. -/
theorem eight_mul_wordIndex {a : Offset} {b : Block} (hb : blockAt a = some b) (h8 : a.toNat % 8 = 0) :
    (firstOffset b).toNat + 8 * (wordIndex b a).toNat = a.toNat := by
  have hfirst : (firstOffset b).toNat ≤ a.toNat := (blockAt_eq_some_iff.mp hb).1
  have hb8 := firstOffset_aligned b
  have hlt := a.isLt
  rw [wordIndex, laneIndex, blockOffset, BitVec.extractLsb'_toNat, BitVec.toNat_sub_of_le hfirst,
    Nat.shiftRight_eq_div_pow]
  omega

/-! ### The handler frames (R142, R160, R170, R204, R205) -/

/-- A stub's read handler is the diagnostic no-op at the absolute offset. -/
theorem stubRead_blockOffset (b : Block) (a : Offset) (be : Lanes) :
    stubRead b (blockOffset b a) be = noOpRead b a be := by
  funext s
  rw [stubRead, firstOffset_add_blockOffset, noOpRead]

/-- A stub's write handler is the diagnostic no-op at the absolute offset. -/
theorem stubWrite_blockOffset (b : Block) (a : Offset) (be : Lanes) (d : Word) :
    stubWrite b (blockOffset b a) be d = noOpWrite b a be d := by
  funext s
  rw [stubWrite, firstOffset_add_blockOffset, noOpWrite]

/-- What the timebase read handler drives for a recognized register (R58, R142). -/
theorem timebaseRead_rdata (r : TimebaseReg) (be : Lanes) (s : State) :
    (timebaseRead (timebaseOffset r) be s).rdata = some (if laneOk be then timebaseValue s.regs r else 0) := by
  have h : timebaseRead (timebaseOffset r) be s =
      readRegister lanePolicy .ustMsc (timebaseAddress r) be (timebaseValue s.regs r) s := by cases r <;> rfl
  rw [h, readRegister_rdata, laneOk]

/-- What the ISA read handler drives for a recognized register (R58, R160). -/
theorem isaRead_rdata (r : IsaReg) (be : Lanes) (s : State) :
    (isaRead (isaOffset r) be s).rdata = some (if laneOk be then isaValue s.regs r else 0) := by
  have h : isaRead (isaOffset r) be s =
      readRegister lanePolicy .isa (isaAddress r) be (isaValue s.regs r) s := by cases r <;> rfl
  rw [h, readRegister_rdata, laneOk]

theorem timebaseRead_of_unrecognized {a : Offset} (h : timebaseRegAt (blockOffset .ustMsc a) = none) (be : Lanes) :
    timebaseRead (blockOffset .ustMsc a) be = noOpRead .ustMsc a be := by
  funext s
  rw [← stubRead_blockOffset]
  simp only [timebaseRead, h]
  rfl

theorem isaRead_of_unrecognized {a : Offset} (h : isaRegAt (blockOffset .isa a) = none) (be : Lanes) :
    isaRead (blockOffset .isa a) be = noOpRead .isa a be := by
  funext s
  rw [← stubRead_blockOffset]
  simp only [isaRead, h]
  rfl

theorem timebaseWrite_of_unrecognized {a : Offset} (h : timebaseRegAt (blockOffset .ustMsc a) = none) (be : Lanes)
    (d : Word) : timebaseWrite (blockOffset .ustMsc a) be d = noOpWrite .ustMsc a be d := by
  funext s
  rw [← stubWrite_blockOffset]
  simp only [timebaseWrite, h]
  rfl

theorem isaWrite_of_unrecognized {a : Offset} (h : isaRegAt (blockOffset .isa a) = none) (be : Lanes) (d : Word) :
    isaWrite (blockOffset .isa a) be d = noOpWrite .isa a be d := by
  funext s
  rw [← stubWrite_blockOffset]
  simp only [isaWrite, h]
  rfl

/-- Bits 14:5 of `boff` are the low ten bits of `boff >> 5` (R201). -/
theorem rtcBridgeRead_blockOffset (a : Offset) : rtcBridgeRead (blockOffset .rtc a) = callRtcRead (rtcIndex a) := by
  funext s
  rw [rtcBridgeRead, rtcIndex, BitVec.setWidth_ushiftRight_eq_extractLsb]

theorem rtcBridgeWrite_blockOffset (a : Offset) (d : Word) :
    rtcBridgeWrite (blockOffset .rtc a) d = callRtcWrite (rtcIndex a) (rtcDatum d) := by
  funext s
  rw [rtcBridgeWrite, rtcIndex, rtcDatum, BitVec.setWidth_ushiftRight_eq_extractLsb,
    BitVec.setWidth_eq_extractLsb' (by decide)]

/-! ### The events of the recognized registers (R87, R88) -/

theorem exec_timebaseReadEvent (be : Lanes) (r : TimebaseReg) (s : State) :
    exec (timebaseReadEvent be r) s = busAccess (timebaseRead (timebaseOffset r) be) s := by
  cases r <;> rfl

theorem exec_isaReadEvent (be : Lanes) (r : IsaReg) (s : State) :
    exec (isaReadEvent be r) s = busAccess (isaRead (isaOffset r) be) s := by
  cases r <;> rfl

theorem exec_timebaseWriteEvent (be : Lanes) (d : Word) (r : TimebaseReg) (s : State) :
    exec (timebaseWriteEvent be d r) s = busAccess (timebaseWrite (timebaseOffset r) be d) s := by
  cases r with
  | ustMsc | compare1 | compare2 | compare3 => rfl
  | _ => exact congrArg (busAccess · s) (funext fun _ => (ite_self _).symm)

theorem exec_isaWriteEvent (be : Lanes) (d : Word) (r : IsaReg) (s : State) :
    exec (isaWriteEvent be d r) s = busAccess (isaWrite (isaOffset r) be d) s := by
  cases r <;> rfl

theorem timebaseOffset_of_timebaseRegAt {boff : Offset} {r : TimebaseReg} (h : timebaseRegAt boff = some r) :
    timebaseOffset r = boff :=
  beq_iff_eq.mp (List.find?_some (p := fun r => timebaseOffset r == boff) h)

theorem isaOffset_of_isaRegAt {boff : Offset} {r : IsaReg} (h : isaRegAt boff = some r) : isaOffset r = boff :=
  beq_iff_eq.mp (List.find?_some (p := fun r => isaOffset r == boff) h)

/-! ### The events of the bus accesses (R53) -/

/-- The event a bus read decodes to is BusRead. -/
theorem exec_busReadEvent (a : Offset) (be : Lanes) (s : State) : exec (busReadEvent a be) s = busRead a be s := by
  unfold busReadEvent busRead
  cases blockAt a with
  | none => rfl
  | some b =>
    cases b with
    | ustMsc =>
      dsimp only
      cases hr : timebaseRegAt (a - firstOffset .ustMsc) with
      | none => rw [timebaseRead_of_unrecognized hr]; rfl
      | some r => rw [blockOffset, ← timebaseOffset_of_timebaseRegAt hr, ← exec_timebaseReadEvent]
    | isa =>
      dsimp only
      cases hr : isaRegAt (a - firstOffset .isa) with
      | none => rw [isaRead_of_unrecognized hr]; rfl
      | some r => rw [blockOffset, ← isaOffset_of_isaRegAt hr, ← exec_isaReadEvent]
    | rtc =>
      dsimp only
      rw [rtcBridgeRead_blockOffset]; rfl
    | _ =>
      dsimp only
      rw [stubRead_blockOffset]; rfl

/-- The event a bus write decodes to is BusWrite. -/
theorem exec_busWriteEvent (a : Offset) (be : Lanes) (d : Word) (s : State) :
    exec (busWriteEvent a be d) s = busWrite a be d s := by
  unfold busWriteEvent busWrite
  cases blockAt a with
  | none => rfl
  | some b =>
    cases b with
    | ustMsc =>
      dsimp only
      cases hr : timebaseRegAt (a - firstOffset .ustMsc) with
      | none => rw [timebaseWrite_of_unrecognized hr]; rfl
      | some r => rw [blockOffset, ← timebaseOffset_of_timebaseRegAt hr, ← exec_timebaseWriteEvent]
    | isa =>
      dsimp only
      cases hr : isaRegAt (a - firstOffset .isa) with
      | none => rw [isaWrite_of_unrecognized hr]; rfl
      | some r => rw [blockOffset, ← isaOffset_of_isaRegAt hr, ← exec_isaWriteEvent]
    | rtc =>
      dsimp only
      rw [rtcBridgeWrite_blockOffset]; rfl
    | _ =>
      dsimp only
      rw [stubWrite_blockOffset]; rfl

/-! ### The bus reads (R59) -/

/-- A bus read that has the lane mask of a recognized register is the read event of one of the fourteen (R120 to R129,
R150 to R153). -/
theorem recognizedRead_cases {i : Instr} (hread : isBusRead i = true) (hrec : recognizedLanes i ≠ none) :
    (∃ be r, i = timebaseReadEvent be r) ∨ (∃ be r, i = isaReadEvent be r) := by
  cases i with
  | rdUstMsc be => exact .inl ⟨be, .ustMsc, rfl⟩
  | rdCompare1 be => exact .inl ⟨be, .compare1, rfl⟩
  | rdCompare2 be => exact .inl ⟨be, .compare2, rfl⟩
  | rdCompare3 be => exact .inl ⟨be, .compare3, rfl⟩
  | rdAinMscUst be => exact .inl ⟨be, .ainMscUst, rfl⟩
  | rdAout1MscUst be => exact .inl ⟨be, .aout1MscUst, rfl⟩
  | rdAout2MscUst be => exact .inl ⟨be, .aout2MscUst, rfl⟩
  | rdVin1MscUst be => exact .inl ⟨be, .vin1MscUst, rfl⟩
  | rdVin2MscUst be => exact .inl ⟨be, .vin2MscUst, rfl⟩
  | rdVoutMscUst be => exact .inl ⟨be, .voutMscUst, rfl⟩
  | rdRingbase be => exact .inr ⟨be, .ringbase, rfl⟩
  | rdFlashNicCtrl be => exact .inr ⟨be, .flashNicCtrl, rfl⟩
  | rdIntStatus be => exact .inr ⟨be, .intStatus, rfl⟩
  | rdIntMask be => exact .inr ⟨be, .intMask, rfl⟩
  | wrUstMsc | wrCompare1 | wrCompare2 | wrCompare3 | wrAinMscUst | wrAout1MscUst | wrAout2MscUst | wrVin1MscUst
  | wrVin2MscUst | wrVoutMscUst | wrRingbase | wrFlashNicCtrl | wrIntStatus | wrIntMask =>
    simp [isBusRead, encode, wrEvent, kindOf_eventWord] at hread
  | _ => exact absurd rfl hrec

/-- A read of a recognized register is a bus access that drives a value computed from the sixteen elements alone. -/
theorem exec_recognizedRead {i : Instr} (hread : isBusRead i = true) (hrec : recognizedLanes i ≠ none) :
    ∃ (act : State → State) (value : Image → Word),
      (∀ s, exec i s = busAccess act s) ∧ ∀ s, (act s).rdata = some (value s.regs) := by
  obtain ⟨be, r, rfl⟩ | ⟨be, r, rfl⟩ := recognizedRead_cases hread hrec
  · exact ⟨_, fun regs => if laneOk be then timebaseValue regs r else 0,
      exec_timebaseReadEvent be r, timebaseRead_rdata r be⟩
  · exact ⟨_, fun regs => if laneOk be then isaValue regs r else 0,
      exec_isaReadEvent be r, isaRead_rdata r be⟩

/-- A bus read that completes changes outputs only. -/
theorem exec_busRead_frame {i : Instr} {s t : State} (hread : isBusRead i = true) (h : exec i s = .next t) :
    t.regs = s.regs ∧ t.running = s.running ∧ t.timeline = s.timeline ∧ t.saved = s.saved := by
  cases i with
  | rdUstMsc | rdCompare1 | rdCompare2 | rdCompare3 | rdAinMscUst | rdAout1MscUst | rdAout2MscUst | rdVin1MscUst
  | rdVin2MscUst | rdVoutMscUst | rdRingbase | rdFlashNicCtrl | rdIntStatus | rdIntMask =>
    obtain ⟨-, rfl⟩ := busAccess_eq_next.mp h
    exact ⟨readRegister_regs .., readRegister_running .., readRegister_timeline .., readRegister_saved ..⟩
  | rdUstMscUnk | rdIsaUnk | rdPci | rdVin1 | rdVin2 | rdVout | rdEnet | rdAudio | rdKbdms | rdI2c | rdIsaExt
  | rdUnmapped | rdRtc =>
    obtain ⟨-, rfl⟩ := busAccess_eq_next.mp h
    exact ⟨rfl, rfl, rfl, rfl⟩
  | _ => simp [isBusRead, encode, wrEvent, hostEvent, kindOf_eventWord] at hread

/-! ### What a write leaves to be read -/

/-- A bus access right after an event that leaves the device running acts on the sixteen elements the event gave. -/
theorem runEvents_then_busAccess {w i : Instr} {s t : State} {act : State → State} (hw : exec w s = .next t)
    (hrunning : eventRunning s.running w = true) (hi : exec i t = busAccess act t) :
    t.regs = eventRegs s.running s.regs w ∧ runEvents [w, i] s = .next (act t) := by
  obtain ⟨hregs, hrun, -⟩ := exec_eq_next hw
  refine ⟨hregs, runEvents_cons_eq_next.mpr ⟨t, hw, runEvents_cons_eq_next.mpr ⟨act t, ?_, rfl⟩⟩⟩
  rw [hi, busAccess_of_running (hrun.trans hrunning)]

/-- The value a full-width write of a timebase register leaves for the next read of it. -/
theorem timebaseRegister_readsBack {s : State} (hs : s.running = true) (d : Word) (r : TimebaseReg) :
    ∃ u, runEvents [timebaseWriteEvent 0xFF d r, timebaseReadEvent 0xFF r] s = .next u ∧
      u.rdata = some (timebaseValue (eventRegs s.running s.regs (timebaseWriteEvent 0xFF d r)) r) := by
  have hw := (exec_timebaseWriteEvent 0xFF d r s).trans (busAccess_of_running hs _)
  obtain ⟨hregs, hrun⟩ := runEvents_then_busAccess hw (by cases r <;> exact hs) (exec_timebaseReadEvent 0xFF r _)
  exact ⟨_, hrun, hregs ▸ timebaseRead_rdata r 0xFF _⟩

/-- The value a full-width write of an ISA register leaves for the next read of it. -/
theorem isaRegister_readsBack {s : State} (hs : s.running = true) (d : Word) (r : IsaReg) :
    ∃ u, runEvents [isaWriteEvent 0xFF d r, isaReadEvent 0xFF r] s = .next u ∧
      u.rdata = some (isaValue (eventRegs s.running s.regs (isaWriteEvent 0xFF d r)) r) := by
  have hw := (exec_isaWriteEvent 0xFF d r s).trans (busAccess_of_running hs _)
  obtain ⟨hregs, hrun⟩ := runEvents_then_busAccess hw (by cases r <;> exact hs) (exec_isaReadEvent 0xFF r _)
  exact ⟨_, hrun, hregs ▸ isaRead_rdata r 0xFF _⟩

/-! ### The step of a listed event -/

/-- A step whose first listed event decodes runs it on the state without it. -/
theorem step_of_decode {s : State} {e : Event} {rest : List Event} {i : Instr} (hl : s.timeline = e :: rest)
    (hd : decode e = .event i) : step s = exec i { s with timeline := rest } := by
  simp only [step, takeEvent, hl, hd]

/-- An instruction is read from a word only if the bare event of the word decodes to it. -/
theorem decode_of_decodeTableWord {nbits w : Nat} {i : Instr} (h : decodeTableWord nbits w = some i) :
    decode (bareEvent (BitVec.ofNat 25 (w % 2 ^ nbits))) = .event i := by
  unfold decodeTableWord at h
  split at h
  case isTrue =>
    cases hd : decode (bareEvent (BitVec.ofNat 25 (w % 2 ^ nbits))) <;> rw [hd] at h <;> cases h
    rfl
  case isFalse => cases h

end Sys2Proof.Machine

namespace Sys2Proof.Proofs

open Sys2Proof Sys2Proof.Machine

/-- Settles O41: beside `BASE` in the sum, the offset is the block's first offset plus eight times the lane index. -/
theorem absoluteAddressIsBlockBasePlusLane : Obligations.AbsoluteAddressIsBlockBasePlusLane := by
  intro a b hb h8
  have hword := eight_mul_wordIndex hb h8
  rw [absAddr, BitVec.add_assoc]
  congr 1
  apply BitVec.eq_of_toNat_eq
  have hlt := a.isLt
  simp only [BitVec.toNat_add, BitVec.toNat_mul, BitVec.toNat_setWidth, BitVec.reduceToNat]
  omega

/-- Settles O47: each block is all the offsets with its top bits, so its two ends are multiples of a power of two. -/
theorem addressMapIsByTopBits : Obligations.AddressMapIsByTopBits := by
  intro a
  refine ⟨?_, ?_, ?_, ?_, ?_, ?_, ?_, ?_, ?_, ?_, ?_, ?_, blockAt_eq_none_iff⟩ <;>
    exact blockAt_eq_some_iff_topBits rfl rfl rfl

/-- Settles O53: by the block of the offset, and by the register in the two blocks that have any. -/
theorem eventMeaningsAgreeWithHandlerFrames : Obligations.EventMeaningsAgreeWithHandlerFrames :=
  ⟨exec_busReadEvent, exec_busWriteEvent⟩

/-- Settles O22: a read changes outputs only, and what a recognized register drives depends on the sixteen elements. -/
theorem busReadsChangeNoRegister : Obligations.BusReadsChangeNoRegister := by
  intro i s t hread h
  obtain ⟨hregs, hrunning, htimeline, hsaved⟩ := exec_busRead_frame hread h
  refine ⟨hregs, hrunning, htimeline, hsaved, fun hrec => ?_⟩
  obtain ⟨act, value, hexec, hvalue⟩ := exec_recognizedRead hread hrec
  obtain ⟨hs, rfl⟩ := busAccess_eq_next.mp ((hexec s).symm.trans h)
  refine ⟨_, (hexec _).trans (busAccess_of_running (hrunning.trans hs) act), ?_⟩
  rw [hvalue, hvalue, hregs]

/-- Settles O34: the read gives the register's value in `eventRegs` of the write, which stores `d` in the six registers
that can be written and leaves the other eight. -/
theorem writtenRegisterReadsBack : Obligations.WrittenRegisterReadsBack := by
  intro d s hs
  have timebase := timebaseRegister_readsBack hs d
  have isa := isaRegister_readsBack hs d
  exact ⟨timebase .compare1, timebase .compare2, timebase .compare3, isa .ringbase, isa .flashNicCtrl, isa .intMask,
    timebase .ustMsc, isa .intStatus, timebase .ainMscUst, timebase .aout1MscUst, timebase .aout2MscUst,
    timebase .vin1MscUst, timebase .vin2MscUst, timebase .voutMscUst⟩

/-- Settles O50: the placed event of the second half is the first of its timeline. -/
theorem stepRunsTheDecodedEvent : Obligations.StepRunsTheDecodedEvent :=
  ⟨fun _ _ _ _ hl hd => step_of_decode hl hd,
    fun _ _ _ _ _ h => step_of_decode rfl (decode_of_decodeTableWord h)⟩

end Sys2Proof.Proofs
end

section
/-! PROOF. The statements of 30_encoding.md: what decodes and what is rejected (R80, R84); the encoder and the decoder
undo each other (R89); register selection (R87, R88); the opcode table read by intervals of event words (R84 to R86). -/

namespace Sys2Proof.Machine

open Sys2Proof

/-! ### Which words decode (R80, R84) -/

/-- The kinds numbered 0 and 1 are the bus kinds. -/
theorem kindOf_bus_iff (k : BitVec 3) : k.toNat < 2 ↔ kindOf k = .busRead ∨ kindOf k = .busWrite := by
  revert k
  decide

theorem toNat_lt_two_iff (k : BitVec 3) : k.toNat < 2 ↔ k = 0b000 ∨ k = 0b001 := by
  revert k
  decide

/-- A bus word is checked for alignment, whatever event it selects. -/
theorem decode_of_busKind {e : Event} (hk : (kindField e.word).toNat < 2) :
    ∃ i, decode e = ifAligned (offsetField e.word) i := by
  rcases (kindOf_bus_iff _).mp hk with hk | hk <;> simp only [decode, hk]
  · exact ⟨_, rfl⟩
  · exact ⟨_, rfl⟩

/-- Any other word is checked for a zero field, whatever event it selects. -/
theorem decode_of_hostKind {e : Event} (hk : ¬(kindField e.word).toNat < 2) :
    ∃ i, decode e = ifZero (offsetField e.word) i := by
  rw [kindOf_bus_iff] at hk
  cases hkind : kindOf (kindField e.word) <;> simp only [decode, hkind]
  case busRead | busWrite => simp [hkind] at hk
  all_goals exact ⟨_, rfl⟩

theorem ifAligned_eq_rejected {a : Offset} {i : Instr} {why : DecodeError} :
    ifAligned a i = .rejected why ↔ a.toNat % 8 ≠ 0 ∧ why = .offsetNotAligned := by
  rw [ifAligned, ne_eq, ← lowBits_eq_zero_iff]
  split
  case isTrue h => simp [h]
  case isFalse h => rw [Decoded.rejected.injEq, and_iff_right h, eq_comm]

theorem ifZero_eq_rejected {a : Offset} {i : Instr} {why : DecodeError} :
    ifZero a i = .rejected why ↔ a ≠ 0 ∧ why = .zeroFieldNotZero := by
  rw [ifZero]
  split
  case isTrue h => simp [h]
  case isFalse h => rw [Decoded.rejected.injEq, and_iff_right h, eq_comm]

/-- A presented event decodes exactly under the condition of R84 on its word. -/
theorem decodes_iff (e : Event) :
    (∃ i, decode e = .event i) ↔
      if (kindField e.word).toNat < 2 then (offsetField e.word).toNat % 8 = 0 else offsetField e.word = 0 := by
  split
  case isTrue hk =>
    obtain ⟨i, hd⟩ := decode_of_busKind hk
    simp [hd, ifAligned_eq_event]
  case isFalse hk =>
    obtain ⟨i, hd⟩ := decode_of_hostKind hk
    simp [hd, ifZero_eq_event]

/-- A presented event is rejected exactly when its word breaks that condition, under the name of the condition. -/
theorem decode_eq_rejected_iff {e : Event} {why : DecodeError} :
    decode e = .rejected why ↔
      if (kindField e.word).toNat < 2 then (offsetField e.word).toNat % 8 ≠ 0 ∧ why = .offsetNotAligned
      else offsetField e.word ≠ 0 ∧ why = .zeroFieldNotZero := by
  split
  case isTrue hk =>
    obtain ⟨i, hd⟩ := decode_of_busKind hk
    rw [hd, ifAligned_eq_rejected]
  case isFalse hk =>
    obtain ⟨i, hd⟩ := decode_of_hostKind hk
    rw [hd, ifZero_eq_rejected]

/-- A step whose first listed word is rejected refuses it under the name of the condition. -/
theorem step_of_rejected {s : State} {e : Event} {rest : List Event} {why : DecodeError} (hl : s.timeline = e :: rest)
    (hd : decode e = .rejected why) : step s = .refused (refusalOf why) := by
  simp only [step, takeEvent, hl, hd]

/-! ### Register selection (R87, R88) -/

/-- The first item of a list with a given offset, one item at a time. -/
theorem find?_offset_cons {R : Type} (offset : R → Offset) (boff : Offset) (r : R) (regs : List R) :
    (r :: regs).find? (fun r => offset r == boff) =
      if boff = offset r then some r else regs.find? (fun r => offset r == boff) := by
  rw [List.find?_cons]
  refine eq_ite_of (fun h => ?_) (fun h => ?_)
  · simp [h]
  · simp [beq_false_of_ne (Ne.symm h)]

/-- Where items stand at the first `n` words of a block, an aligned offset is at none of them exactly from word `n` up. -/
theorem find?_offset_eq_none_iff {R : Type} {regs : List R} {offset : R → Offset} {n : Nat}
    (hfilled : ∀ q < n, ∃ r ∈ regs, (offset r).toNat = 8 * q) (hlast : ∀ r ∈ regs, (offset r).toNat < 8 * n)
    {boff : Offset} (h8 : boff.toNat % 8 = 0) :
    regs.find? (fun r => offset r == boff) = none ↔ 8 * n ≤ boff.toNat := by
  rw [List.find?_eq_none]
  constructor
  · intro hnone
    by_contra hlt
    obtain ⟨r, hr, hoff⟩ := hfilled (boff.toNat / 8) (by omega)
    have heq : offset r = boff := BitVec.eq_of_toNat_eq (by omega)
    exact hnone r hr (beq_iff_eq.mpr heq)
  · intro hle r hr heq
    have := hlast r hr
    rw [beq_iff_eq.mp heq] at this
    omega

theorem timebaseRegAt_eq_none_iff {boff : Offset} (h8 : boff.toNat % 8 = 0) :
    timebaseRegAt boff = none ↔ 0x50 ≤ boff.toNat :=
  find?_offset_eq_none_iff (n := 10) (by decide) (by decide) h8

theorem isaRegAt_eq_none_iff {boff : Offset} (h8 : boff.toNat % 8 = 0) : isaRegAt boff = none ↔ 0x20 ≤ boff.toNat :=
  find?_offset_eq_none_iff (n := 4) (by decide) (by decide) h8

/-! ### The ranges of the operands (R130, R141, R154, R159, R172 to R191, R204, R205) -/

theorem offsetBetween_iff {first last : Nat} {a : Offset} :
    offsetBetween first last a = true ↔ a.toNat % 8 = 0 ∧ first ≤ a.toNat ∧ a.toNat ≤ last := by
  simp [offsetBetween, and_assoc]

/-- A range that begins and ends in a block lies in it. -/
theorem blockAt_of_offsetBetween {first last : Nat} {a : Offset} {b : Block} (h : offsetBetween first last a = true)
    (hfirst : blockAt (BitVec.ofNat 22 first) = some b) (hlast : last < blockEnd b) : blockAt a = some b := by
  obtain ⟨-, hle, hge⟩ := offsetBetween_iff.mp h
  have hb := (blockAt_eq_some_iff.mp hfirst).1
  rw [BitVec.toNat_ofNat] at hb
  exact blockAt_eq_some_iff.mpr ⟨by have := Nat.mod_le first (2 ^ 22); omega, by omega⟩

/-- The aligned offsets of a block from its byte `n` up are a range that ends at the block's last word. -/
theorem offsetBetween_blockEnd_iff {a : Offset} {b : Block} {n : Nat} :
    offsetBetween ((firstOffset b).toNat + n) (blockEnd b - 8) a = true ↔
      a.toNat % 8 = 0 ∧ blockAt a = some b ∧ n ≤ (a - firstOffset b).toNat := by
  have hend : blockEnd b % 8 = 0 ∧ 8 ≤ blockEnd b := by cases b <;> decide
  rw [offsetBetween_iff, blockAt_eq_some_iff]
  refine and_congr_right fun h8 => ?_
  by_cases hfirst : (firstOffset b).toNat ≤ a.toNat
  · rw [BitVec.toNat_sub_of_le hfirst]
    omega
  · omega

theorem offsetInHole_iff {a : Offset} : offsetInHole a = true ↔ a.toNat % 8 = 0 ∧ blockAt a = none := by
  rw [offsetInHole, Bool.or_eq_true, offsetBetween_iff, offsetBetween_iff, blockAt_eq_none_iff]
  have := a.isLt
  omega

/-- A multiple of 8 is as far from the first offset of its block. -/
theorem blockRelative_aligned {a : Offset} {b : Block} (h8 : a.toNat % 8 = 0) : (a - firstOffset b).toNat % 8 = 0 := by
  have := firstOffset_aligned b
  rw [BitVec.toNat_sub]
  omega

/-- The range of "any other offset" of the timebase block: its aligned offsets at which no register is. -/
theorem timebaseUnknown_iff {a : Offset} :
    offsetBetween 0x330050 0x33FFF8 a = true ↔
      a.toNat % 8 = 0 ∧ blockAt a = some .ustMsc ∧ timebaseRegAt (a - firstOffset .ustMsc) = none :=
  (offsetBetween_blockEnd_iff (b := .ustMsc) (n := 0x50)).trans
    (and_congr_right fun h8 => by rw [timebaseRegAt_eq_none_iff (blockRelative_aligned h8)])

/-- The range of "any other offset" of the ISA block: its aligned offsets at which no register is. -/
theorem isaUnknown_iff {a : Offset} :
    offsetBetween 0x300020 0x30FFF8 a = true ↔
      a.toNat % 8 = 0 ∧ blockAt a = some .isa ∧ isaRegAt (a - firstOffset .isa) = none :=
  (offsetBetween_blockEnd_iff (b := .isa) (n := 0x20)).trans
    (and_congr_right fun h8 => by rw [isaRegAt_eq_none_iff (blockRelative_aligned h8)])

/-! ### Encoding and decoding bus events (R84 to R89) -/

/-- A presented read decodes to the event at its offset. -/
theorem decode_rdEvent {a : Offset} {be : Lanes} {i : Instr} (h8 : a.toNat % 8 = 0) (hi : busReadEvent a be = i) :
    decode (rdEvent a be) = .event i := by
  rw [rdEvent, decode_read, ifAligned_of_mod h8, hi]

/-- A presented write decodes to the event at its offset. -/
theorem decode_wrEvent {a : Offset} {be : Lanes} {d : Word} {i : Instr} (h8 : a.toNat % 8 = 0)
    (hi : busWriteEvent a be d = i) : decode (wrEvent a be d) = .event i := by
  rw [wrEvent, decode_write, ifAligned_of_mod h8, hi]

theorem encode_timebaseReadEvent (be : Lanes) (r : TimebaseReg) :
    encode (timebaseReadEvent be r) = rdEvent (timebaseAddress r) be := by
  cases r <;> rfl

theorem encode_timebaseWriteEvent (be : Lanes) (d : Word) (r : TimebaseReg) :
    encode (timebaseWriteEvent be d r) = wrEvent (timebaseAddress r) be d := by
  cases r <;> rfl

theorem encode_isaReadEvent (be : Lanes) (r : IsaReg) : encode (isaReadEvent be r) = rdEvent (isaAddress r) be := by
  cases r <;> rfl

theorem encode_isaWriteEvent (be : Lanes) (d : Word) (r : IsaReg) :
    encode (isaWriteEvent be d r) = wrEvent (isaAddress r) be d := by
  cases r <;> rfl

/-- The offset at which a timebase register is found is its address (R87). -/
theorem timebaseAddress_of_timebaseRegAt {a : Offset} {r : TimebaseReg}
    (h : timebaseRegAt (a - firstOffset .ustMsc) = some r) : timebaseAddress r = a := by
  rw [timebaseAddress, timebaseOffset_of_timebaseRegAt h]
  exact firstOffset_add_blockOffset .ustMsc a

/-- The offset at which an ISA register is found is its address (R88). -/
theorem isaAddress_of_isaRegAt {a : Offset} {r : IsaReg} (h : isaRegAt (a - firstOffset .isa) = some r) :
    isaAddress r = a := by
  rw [isaAddress, isaOffset_of_isaRegAt h]
  exact firstOffset_add_blockOffset .isa a

/-- The two events of an aligned offset, of a read and of a write, are well formed, and each is presented as the bus
access at that offset. -/
theorem busEvents_presentable {a : Offset} (h8 : a.toNat % 8 = 0) (be : Lanes) (d : Word) :
    ((busReadEvent a be).wellFormed = true ∧ encode (busReadEvent a be) = rdEvent a be) ∧
      (busWriteEvent a be d).wellFormed = true ∧ encode (busWriteEvent a be d) = wrEvent a be d := by
  unfold busReadEvent busWriteEvent
  cases hb : blockAt a with
  | none =>
    have hrange := offsetInHole_iff.mpr ⟨h8, hb⟩
    exact ⟨⟨hrange, rfl⟩, hrange, rfl⟩
  | some b =>
    cases b with
    | ustMsc =>
      dsimp only
      cases hr : timebaseRegAt (a - firstOffset .ustMsc) with
      | none =>
        have hrange := timebaseUnknown_iff.mpr ⟨h8, hb, hr⟩
        exact ⟨⟨hrange, rfl⟩, hrange, rfl⟩
      | some r =>
        dsimp only
        rw [encode_timebaseReadEvent, encode_timebaseWriteEvent, timebaseAddress_of_timebaseRegAt hr]
        cases r <;> exact ⟨⟨rfl, rfl⟩, rfl, rfl⟩
    | isa =>
      dsimp only
      cases hr : isaRegAt (a - firstOffset .isa) with
      | none =>
        have hrange := isaUnknown_iff.mpr ⟨h8, hb, hr⟩
        exact ⟨⟨hrange, rfl⟩, hrange, rfl⟩
      | some r =>
        dsimp only
        rw [encode_isaReadEvent, encode_isaWriteEvent, isaAddress_of_isaRegAt hr]
        cases r <;> exact ⟨⟨rfl, rfl⟩, rfl, rfl⟩
    | _ =>
      have hrange := offsetBetween_blockEnd_iff.mpr ⟨h8, hb, Nat.zero_le _⟩
      exact ⟨⟨hrange, rfl⟩, hrange, rfl⟩

/-- Every well-formed event is the one its presented form decodes to. -/
theorem decode_encode_of_wellFormed {i : Instr} (h : i.wellFormed = true) : decode (encode i) = .event i := by
  cases i with
  | rdUstMsc | rdCompare1 | rdCompare2 | rdCompare3 | rdAinMscUst | rdAout1MscUst | rdAout2MscUst | rdVin1MscUst
  | rdVin2MscUst | rdVoutMscUst | rdRingbase | rdFlashNicCtrl | rdIntStatus | rdIntMask => exact decode_rdEvent rfl rfl
  | wrUstMsc | wrCompare1 | wrCompare2 | wrCompare3 | wrAinMscUst | wrAout1MscUst | wrAout2MscUst | wrVin1MscUst
  | wrVin2MscUst | wrVoutMscUst | wrRingbase | wrFlashNicCtrl | wrIntStatus | wrIntMask => exact decode_wrEvent rfl rfl
  | rdUstMscUnk =>
    obtain ⟨h8, hb, hr⟩ := timebaseUnknown_iff.mp h
    exact decode_rdEvent h8 (by simp only [busReadEvent, hb, hr])
  | wrUstMscUnk =>
    obtain ⟨h8, hb, hr⟩ := timebaseUnknown_iff.mp h
    exact decode_wrEvent h8 (by simp only [busWriteEvent, hb, hr])
  | rdIsaUnk =>
    obtain ⟨h8, hb, hr⟩ := isaUnknown_iff.mp h
    exact decode_rdEvent h8 (by simp only [busReadEvent, hb, hr])
  | wrIsaUnk =>
    obtain ⟨h8, hb, hr⟩ := isaUnknown_iff.mp h
    exact decode_wrEvent h8 (by simp only [busWriteEvent, hb, hr])
  | rdUnmapped =>
    obtain ⟨h8, hb⟩ := offsetInHole_iff.mp h
    exact decode_rdEvent h8 (by simp only [busReadEvent, hb])
  | wrUnmapped =>
    obtain ⟨h8, hb⟩ := offsetInHole_iff.mp h
    exact decode_wrEvent h8 (by simp only [busWriteEvent, hb])
  | rdPci | rdVin1 | rdVin2 | rdVout | rdEnet | rdAudio | rdKbdms | rdI2c | rdIsaExt | rdRtc =>
    have hb := blockAt_of_offsetBetween h rfl (by decide)
    exact decode_rdEvent (offsetBetween_iff.mp h).1 (by simp only [busReadEvent, hb])
  | wrPci | wrVin1 | wrVin2 | wrVout | wrEnet | wrAudio | wrKbdms | wrI2c | wrIsaExt | wrRtc =>
    have hb := blockAt_of_offsetBetween h rfl (by decide)
    exact decode_wrEvent (offsetBetween_iff.mp h).1 (by simp only [busWriteEvent, hb])
  | ftick | stick | reset | stop | save | restore =>
    simp only [decode, encode, hostEvent, kindOf_eventWord, offsetField_eventWord, ifZero, if_pos]

/-- What decodes is well formed, and its presented form has the word it was decoded from. -/
theorem wellFormed_of_decode {e : Event} {i : Instr} (h : decode e = .event i) :
    i.wellFormed = true ∧ (encode i).word = e.word := by
  have hword := eventWord_fields e.word
  unfold decode at h
  cases hk : kindOf (kindField e.word) <;> rw [hk] at h hword
  case busRead =>
    obtain ⟨h8, rfl⟩ := ifAligned_eq_event.mp h
    obtain ⟨hwf, hencode⟩ := (busEvents_presentable h8 e.be e.data).1
    exact ⟨hwf, hencode ▸ hword⟩
  case busWrite =>
    obtain ⟨h8, rfl⟩ := ifAligned_eq_event.mp h
    obtain ⟨hwf, hencode⟩ := (busEvents_presentable h8 e.be e.data).2
    exact ⟨hwf, hencode ▸ hword⟩
  all_goals
    obtain ⟨hzero, rfl⟩ := ifZero_eq_event.mp h
    exact ⟨rfl, by rw [← hword, hzero]; rfl⟩

/-! ### The opcode table by intervals of words (R84 to R86) -/

/-- The last word that fits a row whose mask keeps the high bits. -/
def lastWord (row : OpcodeRow) : Nat := row.bits.toNat + (~~~row.mask).toNat

/-- Every mask of the table keeps the bits from one position up, and no row has a bit below it. -/
theorem opcodeTable_highMasks : ∀ row ∈ opcodeTable, ∃ k ∈ [0, 15, 16, 17, 19, 22],
    row.mask = BitVec.allOnes 25 <<< k ∧ row.bits.toNat % 2 ^ k = 0 := by
  decide

/-- So the words that fit a row are an interval. -/
theorem fitsRow_iff {row : OpcodeRow} (hrow : row ∈ opcodeTable) (w : EventWord) :
    fitsRow w row = true ↔ row.bits.toNat ≤ w.toNat ∧ w.toNat ≤ lastWord row := by
  obtain ⟨k, hk, hmask, hbits⟩ := opcodeTable_highMasks row hrow
  have hlow : (~~~(BitVec.allOnes 25 <<< k)).toNat = 2 ^ k - 1 := by
    clear hmask hbits
    revert k
    decide
  have hpos := Nat.two_pow_pos k
  rw [fitsRow, beq_iff_eq, ← BitVec.toNat_inj, lastWord, hmask, and_highMask_toNat, hlow]
  obtain ⟨c, hc⟩ := Nat.dvd_of_mod_eq_zero hbits
  rw [hc, Nat.mul_comm _ c, Nat.mul_left_inj hpos.ne', Nat.div_eq_iff hpos]
  omega

/-- The rows, in table order, that some word from `lo` to `hi` fits. -/
def rowsMeeting (lo hi : Nat) : List OpcodeRow :=
  opcodeTable.filter fun row => decide (row.bits.toNat ≤ hi) && decide (lo ≤ lastWord row)

/-- Of the rows that meet the words from `lo` to `hi`, the first holds them all, has the name `name`, and is the most
specific. -/
def selectsRow (lo hi : Nat) (name : String) : Bool :=
  match rowsMeeting lo hi with
  | [] => false
  | row :: rest =>
    decide (row.bits.toNat ≤ lo) && decide (hi ≤ lastWord row) && row.mnemonic == name &&
      rest.all fun other => other.mask &&& row.mask == other.mask

/-- The row of R84 for a word has the name `name`: it is the first that the word fits and the most specific. -/
def HasRow (w : EventWord) (name : String) : Prop :=
  firstFit w = some name ∧
    ∃ row ∈ opcodeTable, row.mnemonic = name ∧ fitsRow w row = true ∧
      ∀ other ∈ opcodeTable, fitsRow w other = true → other.mask &&& row.mask = other.mask

/-- A word between `lo` and `hi` fits no other row than those. -/
theorem mem_rowsMeeting {lo hi : Nat} {w : EventWord} (hlo : lo ≤ w.toNat) (hhi : w.toNat ≤ hi) {row : OpcodeRow}
    (hrow : row ∈ opcodeTable) (hfits : fitsRow w row = true) : row ∈ rowsMeeting lo hi := by
  obtain ⟨hfirst, hlast⟩ := (fitsRow_iff hrow w).mp hfits
  simp only [rowsMeeting, List.mem_filter, Bool.and_eq_true, decide_eq_true_eq]
  exact ⟨hrow, hfirst.trans hhi, hlo.trans hlast⟩

/-- So its first fitting row is the first among those. -/
theorem find?_rowsMeeting {lo hi : Nat} {w : EventWord} (hlo : lo ≤ w.toNat) (hhi : w.toNat ≤ hi) :
    (rowsMeeting lo hi).find? (fitsRow w) = opcodeTable.find? (fitsRow w) := by
  rw [← List.head?_filter, ← List.head?_filter, rowsMeeting, List.filter_filter]
  congr 1
  refine List.filter_congr fun row hrow => ?_
  cases hfits : fitsRow w row with
  | false => rfl
  | true => exact (List.mem_filter.mp (mem_rowsMeeting hlo hhi hrow hfits)).2

/-- The row selected for an interval is the row of every word in it. -/
theorem hasRow_of_selectsRow {lo hi : Nat} {name : String} (h : selectsRow lo hi name = true) {w : EventWord}
    (hlo : lo ≤ w.toNat) (hhi : w.toNat ≤ hi) : HasRow w name := by
  unfold selectsRow at h
  cases hrows : rowsMeeting lo hi with
  | nil => simp [hrows] at h
  | cons row rest =>
    simp only [hrows, Bool.and_eq_true, decide_eq_true_eq, beq_iff_eq, List.all_eq_true] at h
    obtain ⟨⟨⟨hfirst, hlast⟩, rfl⟩, hrest⟩ := h
    have hrow : row ∈ opcodeTable := List.mem_of_mem_filter (hrows ▸ List.mem_cons_self : row ∈ rowsMeeting lo hi)
    have hfits : fitsRow w row = true := (fitsRow_iff hrow w).mpr ⟨hfirst.trans hlo, hhi.trans hlast⟩
    refine ⟨?_, row, hrow, rfl, hfits, fun other hother hofits => ?_⟩
    · rw [firstFit, ← find?_rowsMeeting hlo hhi, hrows, List.find?_cons_of_pos hfits, Option.map_some]
    · have hmem := mem_rowsMeeting hlo hhi hother hofits
      rw [hrows] at hmem
      obtain rfl | hmem := List.mem_cons.mp hmem
      · exact BitVec.and_self
      · exact hrest other hmem

/-- The same for the words of one kind, by their offsets. -/
theorem hasRow_eventWord {k : Kind} {lo hi : Nat} {a : Offset} {name : String} (ha : lo ≤ a.toNat ∧ a.toNat ≤ hi)
    (h : selectsRow ((kindCode k).toNat * 4194304 + lo) ((kindCode k).toNat * 4194304 + hi) name = true) :
    HasRow (eventWord k a) name := by
  refine hasRow_of_selectsRow h ?_ ?_ <;> rw [eventWord_toNat]
  · exact Nat.add_le_add_left ha.1 _
  · exact Nat.add_le_add_left ha.2 _

/-- Every well-formed event has the row it is named after: the words of each event with an offset are one interval, or
two for the holes, and every other event has one word. -/
theorem hasRow_encode {i : Instr} (h : i.wellFormed = true) : HasRow (encode i).word i.mnemonic := by
  cases i with
  | rdUstMscUnk | wrUstMscUnk | rdIsaUnk | wrIsaUnk | rdPci | rdVin1 | rdVin2 | rdVout | rdEnet | rdAudio | rdKbdms
  | rdI2c | rdIsaExt | rdRtc | wrPci | wrVin1 | wrVin2 | wrVout | wrEnet | wrAudio | wrKbdms | wrI2c | wrIsaExt
  | wrRtc => exact hasRow_eventWord (offsetBetween_iff.mp h).2 rfl
  | rdUnmapped | wrUnmapped =>
    obtain h | h := Bool.or_eq_true_iff.mp h
    · exact hasRow_eventWord (offsetBetween_iff.mp h).2 rfl
    · exact hasRow_eventWord (offsetBetween_iff.mp h).2 rfl
  | _ => exact hasRow_eventWord ⟨le_rfl, le_rfl⟩ rfl

end Sys2Proof.Machine

namespace Sys2Proof.Proofs

open Sys2Proof Sys2Proof.Machine

/-! ### The statements -/

/-- Settles O43: by the event, from the block or the register at its offset. -/
theorem decodeInvertsEncode : Obligations.DecodeInvertsEncode :=
  fun _ h => decode_encode_of_wellFormed h

/-- Settles O44: the event a word decodes to is presented by that word, and O43 decodes it again. -/
theorem encodeInvertsDecode : Obligations.EncodeInvertsDecode := by
  intro e i h
  obtain ⟨hwf, hword⟩ := wellFormed_of_decode h
  exact ⟨hwf, hword, (decodeInvertsEncode i hwf).trans h.symm⟩

/-- Settles O45: the word is that of a well-formed event (O44), which has the row it is named after. -/
theorem decodePicksTheMostSpecificRow : Obligations.DecodePicksTheMostSpecificRow := by
  refine ⟨fun e => ?_, fun e i h => ?_⟩
  · simp only [decodes_iff, toNat_lt_two_iff, lowBits_eq_zero_iff]
  · obtain ⟨hwf, hword⟩ := wellFormed_of_decode h
    exact hword ▸ hasRow_encode hwf

/-- Settles O46: which words decode and why the others do not is said of the word alone, and the row of what decodes is
the first one the word fits (O45). -/
theorem operandsTakeNoPartInDecode : Obligations.OperandsTakeNoPartInDecode := by
  intro e f hw
  refine ⟨fun why => by rw [decode_eq_rejected_iff, decode_eq_rejected_iff, hw], fun i hi => ?_⟩
  obtain ⟨j, hj⟩ := (decodes_iff f).mpr (hw ▸ (decodes_iff e).mp ⟨i, hi⟩)
  have hrow := (decodePicksTheMostSpecificRow.2 e i hi).1
  rw [hw, (decodePicksTheMostSpecificRow.2 f j hj).1] at hrow
  exact ⟨j, hj, Option.some.inj hrow⟩

/-- Settles O48: the search of each list item by item, and the presented form of each register's events. -/
theorem registerSelectionIsExact : Obligations.RegisterSelectionIsExact := by
  refine ⟨fun boff => ⟨?_, ?_⟩, fun r be d => ⟨?_, ?_, ?_⟩, fun r be d => ⟨?_, ?_, ?_⟩⟩
  · simp only [timebaseRegAt, timebaseRegs, find?_offset_cons, List.find?_nil]
    rfl
  · simp only [isaRegAt, isaRegs, find?_offset_cons, List.find?_nil]
    rfl
  · cases r <;> rfl
  · rw [encode_timebaseReadEvent, rdEvent, eventWord_toNat]
    cases r <;> rfl
  · rw [encode_timebaseWriteEvent, wrEvent, eventWord_toNat]
    cases r <;> rfl
  · cases r <;> rfl
  · rw [encode_isaReadEvent, rdEvent, eventWord_toNat]
    cases r <;> rfl
  · rw [encode_isaWriteEvent, wrEvent, eventWord_toNat]
    cases r <;> rfl

/-- Settles O51: such a word is rejected (R84), and the step refuses it under the same name. -/
theorem nonEventWordsAreRefused : Obligations.NonEventWordsAreRefused := by
  refine fun e rest s hl => ⟨fun ⟨hk, h8⟩ => ?_, fun ⟨hk, hzero⟩ => ?_⟩
  · exact step_of_rejected hl (decode_eq_rejected_iff.mpr (by rw [if_pos hk]; exact ⟨h8, rfl⟩))
  · exact step_of_rejected hl (decode_eq_rejected_iff.mpr (by rw [if_neg hk.not_gt]; exact ⟨hzero, rfl⟩))

/-- Settles O49: each vector is a closed word, and decoding it computes. -/
theorem sampleWordsDecode : Obligations.SampleWordsDecode := by
  unfold Obligations.SampleWordsDecode
  decide

end Sys2Proof.Proofs
end

section
/-! PROOF. The statements of 40_timebase_engine.md: what a tick does to the counters, the composite and the status word
(R101 to R103, R107, R112), the counters over a list of events (R110), and both sources ticking without end in an
endless execution (R104). -/

namespace Sys2Proof.Machine

open Sys2Proof

/-! ### The tick of a source -/

/-- The counter and composite part of a source's tick (R101, R102). -/
def countTick : TickSource → Image → Image
  | .fast => countFast
  | .slow => countSlow

section

variable (source : TickSource) (r : Image)

@[simp] theorem countTick_intStatus : (countTick source r).intStatus = r.intStatus := by cases source <;> rfl
@[simp] theorem countTick_compare1 : (countTick source r).compare1 = r.compare1 := by cases source <;> rfl
@[simp] theorem countTick_compare2 : (countTick source r).compare2 = r.compare2 := by cases source <;> rfl
@[simp] theorem countTick_compare3 : (countTick source r).compare3 = r.compare3 := by cases source <;> rfl

end

theorem isTick_iff {i : Instr} : isTick i = true ↔ ∃ source, i = tickEvent source := by
  constructor
  · intro h
    cases i with
    | ftick => exact ⟨.fast, rfl⟩
    | stick => exact ⟨.slow, rfl⟩
    | _ => cases h
  · rintro ⟨source, rfl⟩
    cases source <;> rfl

/-- A tick of a running device counts and then compares (R105). -/
theorem exec_tick {s : State} (hs : s.running = true) (source : TickSource) :
    exec (tickEvent source) s = .next (withRegs (compareEvaluate (countTick source s.regs)) s) := by
  rw [exec_tickEvent hs]
  cases source <;> rfl

/-- A tick of a stopped device changes nothing (R104). -/
theorem exec_tick_of_stopped {s : State} (hs : s.running = false) (source : TickSource) :
    exec (tickEvent source) s = .next s := by
  cases source <;> simp [tickEvent, exec, execFtick, execStick, tickIfRunning, hs]

/-! ### Compare evaluation (R103) -/

/-- One comparator as an OR: its bit where it matches, and no bit where it does not. -/
theorem latchOnMatch_eq_or (v c : Word) (n : Nat) (st : Word) :
    latchOnMatch v c n st = st ||| if v = c then 1#64 <<< n else 0 := by
  unfold latchOnMatch bitMask
  split
  · rfl
  · exact BitVec.or_zero.symm

/-- The bits set after compare evaluation: those set before, and those of the matching comparators. -/
theorem compareEvaluate_getLsbD_iff (r : Image) {k : Nat} (hk : k < 64) :
    (compareEvaluate r).intStatus.getLsbD k = true ↔
      r.intStatus.getLsbD k = true ∨ (k = c1Bit ∧ r.ustMsc = r.compare1) ∨ (k = c2Bit ∧ r.ustMsc = r.compare2) ∨
        (k = c3Bit ∧ r.ustMsc = r.compare3) := by
  simp only [compareEvaluate_intStatus, statusAfterCompare_getLsbD, hk, Bool.or_eq_true, Bool.and_eq_true,
    decide_eq_true_eq]
  tauto

/-- A status bit that a tick newly sets is the bit of a comparator that matches after it (R107). -/
theorem tick_newBit {source : TickSource} {s t : State} {k : Nat} (hx : exec (tickEvent source) s = .next t)
    (hclear : s.regs.intStatus.getLsbD k = false) (hset : t.regs.intStatus.getLsbD k = true) :
    (k = c1Bit ∧ t.regs.ustMsc = t.regs.compare1) ∨ (k = c2Bit ∧ t.regs.ustMsc = t.regs.compare2) ∨
      (k = c3Bit ∧ t.regs.ustMsc = t.regs.compare3) := by
  cases hs : s.running with
  | false =>
    rw [exec_tick_of_stopped hs] at hx
    cases hx
    cases hclear.symm.trans hset
  | true =>
    rw [exec_tick hs] at hx
    cases hx
    have hbit := (compareEvaluate_getLsbD_iff _ (BitVec.lt_of_getLsbD hset)).mp hset
    rw [countTick_intStatus, hclear] at hbit
    exact hbit.resolve_left Bool.false_ne_true

/-! ### Runs (R110) -/

/-- No event of a running device is refused. -/
theorem exec_completes {s : State} (hs : s.running = true) (i : Instr) : ∃ t, exec i s = .next t := by
  cases i with
  | ftick | stick | reset | stop | save | restore => exact ⟨_, rfl⟩
  | _ => exact ⟨_, busAccess_of_running hs _⟩

theorem eventRunning_of_counting {i : Instr} (hi : interruptsCounting i = false) (running : Bool) :
    eventRunning running i = running := by
  cases i with
  | reset | stop => cases hi
  | _ => rfl

/-- An event that does not interrupt the counting adds to each counter the ticks of its source that it is. -/
theorem eventRegs_counters {i : Instr} (hi : interruptsCounting i = false) (r : Image) :
    (eventRegs true r i).ust = r.ust + BitVec.ofNat 32 ([i].count .ftick) ∧
      (eventRegs true r i).msc = r.msc + BitVec.ofNat 32 ([i].count .stick) := by
  cases i with
  | reset | stop | restore => cases hi
  | ftick => exact ⟨rfl, (BitVec.add_zero _).symm⟩
  | stick => exact ⟨(BitVec.add_zero _).symm, rfl⟩
  | _ => exact ⟨(BitVec.add_zero _).symm, (BitVec.add_zero _).symm⟩

/-- A list of events that do not interrupt the counting completes, and adds its ticks to the counters. -/
theorem runEvents_counters {l : List Instr} {s : State} (hl : ∀ i ∈ l, interruptsCounting i = false)
    (hs : s.running = true) :
    ∃ t, runEvents l s = .next t ∧ t.regs.ust = s.regs.ust + BitVec.ofNat 32 (l.count .ftick) ∧
      t.regs.msc = s.regs.msc + BitVec.ofNat 32 (l.count .stick) := by
  induction l generalizing s with
  | nil => exact ⟨s, rfl, (BitVec.add_zero _).symm, (BitVec.add_zero _).symm⟩
  | cons i l ih =>
    obtain ⟨hi, hl⟩ := List.forall_mem_cons.mp hl
    obtain ⟨u, hx⟩ := exec_completes hs i
    obtain ⟨hregs, hrunning, -⟩ := exec_eq_next hx
    obtain ⟨t, hrun, hust, hmsc⟩ := ih hl (hrunning.trans ((eventRunning_of_counting hi _).trans hs))
    obtain ⟨hust', hmsc'⟩ := eventRegs_counters hi s.regs
    rw [hregs, hs] at hust hmsc
    refine ⟨t, runEvents_cons_eq_next.mpr ⟨u, hx, hrun⟩, ?_, ?_⟩
    · rw [hust, hust', BitVec.add_assoc, ← BitVec.ofNat_add, ← List.count_append, List.singleton_append]
    · rw [hmsc, hmsc', BitVec.add_assoc, ← BitVec.ofNat_add, ← List.count_append, List.singleton_append]

theorem compose_toNat (u m : Half) : (compose u m).toNat = u.toNat * 2 ^ 32 + m.toNat := by
  rw [compose_eq_append, ← Nat.shiftLeft_eq, Nat.shiftLeft_add_eq_or_of_lt m.isLt]
  exact BitVec.toNat_append u m

/-! ### The order of one tick of each source (R108) -/

/-- Both orders of counting give one image, when the composite is exact before them. -/
theorem countFast_countSlow {r : Image} (h : Coherent r) : countFast (countSlow r) = countSlow (countFast r) := by
  unfold Coherent at h
  simp only [countFast, countSlow, h, ustHalf_compose, mscHalf_compose]

/-- So one tick of each source gives one image in both orders, but for the status word, all that comparing changes. -/
theorem ticks_commute_but_status {r : Image} (h : Coherent r) :
    { slowTick (fastTick r) with intStatus := (fastTick (slowTick r)).intStatus } = fastTick (slowTick r) :=
  congrArg (fun r' : Image => { r' with intStatus := (fastTick (slowTick r)).intStatus }) (countFast_countSlow h).symm

/-! ### Endless executions (R104) -/

theorem step_stopped {s : State} (hl : s.timeline = []) (hs : s.running = false) : step s = .next s := by
  obtain ⟨_, _, _, hl', -, -⟩ | ⟨_, _, _, hl', -, -⟩ | ⟨-, hs', -⟩ | ⟨-, -, h⟩ := step_cases s
  · cases hl.symm.trans hl'
  · cases hl.symm.trans hl'
  · cases hs.symm.trans hs'
  · exact h

namespace EndlessRun

variable {σ : Nat → State}

/-- Each step takes one event off the timeline, and none is ever added. -/
theorem timeline_eq_drop (h : EndlessRun σ) (n : Nat) : (σ n).timeline = (σ 0).timeline.drop n := by
  induction n with
  | zero => rfl
  | succ n ih => rw [step_timeline (h n), ih, List.tail_drop]

/-- A device stopped with nothing listed stands still for good. -/
theorem stands_still (h : EndlessRun σ) {n : Nat} (hl : (σ n).timeline = []) (hs : (σ n).running = false) (k : Nat) :
    σ (n + k) = σ n := by
  induction k with
  | zero => rfl
  | succ k ih =>
    have hstep := h (n + k)
    rw [ih, step_stopped hl hs] at hstep
    exact (Host.Outcome.next.inj hstep).symm

/-- So one that is running again and again runs whenever nothing is listed. -/
theorem running_of_idle (h : EndlessRun σ) (hagain : ∀ n, ∃ m, n ≤ m ∧ (σ m).running = true) {n : Nat}
    (hl : (σ n).timeline = []) : (σ n).running = true := by
  by_contra hs
  rw [Bool.not_eq_true] at hs
  obtain ⟨m, hm, hrun⟩ := hagain n
  obtain ⟨k, rfl⟩ := Nat.exists_eq_add_of_le hm
  rw [h.stands_still hl hs k, hs] at hrun
  cases hrun

/-- At a step with nothing listed a running device ticks the source its order of ticks has next. -/
theorem ticksAt_nextTick (h : EndlessRun σ) {n : Nat} (hl : (σ n).timeline = []) (hs : (σ n).running = true) :
    ticksAt (nextTick (σ n).choices) σ n :=
  ⟨hl, hs, (step_idle hl hs).symm.trans (h n)⟩

/-- Such a step goes one place on in the order of ticks. -/
theorem choices_succ (h : EndlessRun σ) {n : Nat} (hl : (σ n).timeline = []) (hs : (σ n).running = true) :
    (σ (n + 1)).choices = (σ n).choices + 1 := by
  obtain ⟨-, -, hx⟩ := h.ticksAt_nextTick hl hs
  rw [exec_tick (by exact hs)] at hx
  rw [← Host.Outcome.next.inj hx]
  rfl

/-- From a point on at which every step is such a one, the place in the order is the number of steps since. -/
theorem choices_add (h : EndlessRun σ) {n : Nat} (hidle : ∀ m, n ≤ m → (σ m).timeline = [] ∧ (σ m).running = true)
    (k : Nat) : (σ (n + k)).choices = (σ n).choices + k := by
  induction k with
  | zero => rfl
  | succ k ih =>
    obtain ⟨hl, hs⟩ := hidle (n + k) (Nat.le_add_right n k)
    rw [← Nat.add_assoc, h.choices_succ hl hs, ih, Nat.add_assoc]

end EndlessRun

end Sys2Proof.Machine

namespace Sys2Proof.Proofs

open Sys2Proof Sys2Proof.Machine

/-! ### The statements -/

/-- Settles O14: the tick counts and compares, and each comparator ORs its bit in. -/
theorem fastTickResult : Obligations.FastTickResult := by
  refine fun e s hs => ⟨fun hw => by simp only [decode, hw]; rfl, (exec_tick hs .fast).trans ?_⟩
  simp only [compareEvaluate, statusAfterCompare, latchOnMatch_eq_or]
  rfl

/-- Settles O15: as O14, for the other source. -/
theorem slowTickResult : Obligations.SlowTickResult := by
  refine fun e s hs => ⟨fun hw => by simp only [decode, hw]; rfl, (exec_tick hs .slow).trans ?_⟩
  simp only [compareEvaluate, statusAfterCompare, latchOnMatch_eq_or]
  rfl

/-- Settles O29: the bits of compare evaluation, on the counted registers. -/
theorem tickSetsExactlyTheMatchingBits : Obligations.TickSetsExactlyTheMatchingBits := by
  intro i s hi hs
  obtain ⟨source, rfl⟩ := isTick_iff.mp hi
  refine ⟨_, exec_tick hs source, fun k hk => ?_⟩
  simpa using compareEvaluate_getLsbD_iff (countTick source s.regs) hk

/-- Settles O30: compare evaluation sets the bit of a comparator that matches, and the further events keep it (O28). -/
theorem matchLatchesUntilReset : Obligations.MatchLatchesUntilReset := by
  intro i s t u l hi hs hx hreset hrestore hrun
  obtain ⟨source, rfl⟩ := isTick_iff.mp hi
  have hkept := statusBitsStayUntilReset.2 l t u hrestore hreset hrun
  rw [exec_tick hs] at hx
  cases hx
  have hset {k : Nat} (hk : k < 64) := (compareEvaluate_getLsbD_iff (countTick source s.regs) hk).mpr
  have hstays {k : Nat} (hbit : (compareEvaluate (countTick source s.regs)).intStatus.getLsbD k = true) :=
    And.intro hbit (hkept k hbit)
  exact ⟨fun h => hstays (hset c1Bit_lt (.inr (.inl ⟨rfl, h⟩))),
    fun h => hstays (hset c2Bit_lt (.inr (.inr (.inl ⟨rfl, h⟩)))),
    fun h => hstays (hset c3Bit_lt (.inr (.inr (.inr ⟨rfl, h⟩))))⟩

/-- Settles O31: RESET and RESTORE by what they do to the registers, every other event but a tick because it writes no
status word, and a tick by the bits of compare evaluation. -/
theorem onlyTicksEvaluateCompares : Obligations.OnlyTicksEvaluateCompares := by
  intro i s t hx
  have hregs := exec_regs hx
  have hzero (hi : i = .reset) : t.regs = Image.zero := by rw [hregs, hi]; rfl
  have hkept (htick : isTick i = false) (hreset : i ≠ .reset) (hrestore : ∀ image, i ≠ .restore image) :
      t.regs.intStatus = s.regs.intStatus := by
    obtain ⟨-, -, -, hwriters, -⟩ := registersHaveOnlyTheirWriters i s t hx hreset hrestore
    by_contra hne
    obtain rfl | rfl := hwriters hne <;> cases htick
  refine ⟨fun hi => by simp [hzero hi], ?_, hkept, fun k hrestore hclear hset => ?_⟩
  · rintro image rfl
    rw [hregs]
    rfl
  cases htick : isTick i with
  | true =>
    obtain ⟨source, rfl⟩ := isTick_iff.mp htick
    exact ⟨rfl, tick_newBit hx hclear hset⟩
  | false =>
    by_cases hreset : i = .reset
    · simp [hzero hreset] at hset
    · rw [hkept htick hreset hrestore, hclear] at hset
      cases hset

/-- Settles O32: RESET zeroes the counters, the events after it add their ticks, and the composite is exact (O25). -/
theorem countersCountTheirTicks : Obligations.CountersCountTheirTicks := by
  intro l s hl
  obtain ⟨t, hrun, hust, hmsc⟩ := runEvents_counters (s := resetDevice s) hl rfl
  have hall : runEvents (.reset :: l) s = .next t := hrun
  have hexact : Coherent t.regs :=
    compositeIsExactInEveryRunFromReset l s t (fun image hi => by cases hl _ hi) hall
  replace hust := hust.trans (BitVec.zero_add _)
  replace hmsc := hmsc.trans (BitVec.zero_add _)
  refine ⟨t, hall, hust, hmsc, ?_⟩
  rw [hexact, hust, hmsc, compose_toNat, BitVec.toNat_ofNat, BitVec.toNat_ofNat]

/-- Settles O36: comparing changes the status word only, and counting comes out the same in both orders. -/
theorem tickOrderShowsOnlyInTheStatus : Obligations.TickOrderShowsOnlyInTheStatus := by
  intro s hs hc
  exact ⟨_, _, _, _, exec_tick hs .fast, exec_tick (by exact hs) .slow, exec_tick hs .slow,
    exec_tick (by exact hs) .fast, coherent_fastTick hc, coherent_slowTick hc,
    coherent_slowTick (coherent_fastTick hc), ticks_commute_but_status hc⟩

/-- Settles O59: once the events listed are used up the device runs at every step, so it goes through the order of ticks
place by place, and in that order each source comes again (`nextTick_fair`). -/
theorem bothSourcesTickWithoutEnd : Obligations.BothSourcesTickWithoutEnd := by
  intro σ h hagain source n
  obtain ⟨start, hn, hlength⟩ : ∃ start, n ≤ start ∧ (σ 0).timeline.length ≤ start :=
    ⟨_, le_max_left .., le_max_right ..⟩
  have hidle (m : Nat) (hm : start ≤ m) : (σ m).timeline = [] ∧ (σ m).running = true := by
    have hl : (σ m).timeline = [] := (h.timeline_eq_drop m).trans (List.drop_eq_nil_of_le (hlength.trans hm))
    exact ⟨hl, h.running_of_idle hagain hl⟩
  obtain ⟨place, hplace, hsource⟩ := nextTick_fair source (σ start).choices
  obtain ⟨k, rfl⟩ := Nat.exists_eq_add_of_le hplace
  obtain ⟨hl, hs⟩ := hidle (start + k) (Nat.le_add_right start k)
  refine ⟨start + k, hn.trans (Nat.le_add_right start k), ?_⟩
  rw [← hsource, ← h.choices_add hidle k]
  exact h.ticksAt_nextTick hl hs

/-- Settles O52: the source is the next in the order of ticks. -/
theorem idleStepTicksOneSource : Obligations.IdleStepTicksOneSource := by
  refine fun s hl => ⟨fun hs => ?_, step_stopped hl⟩
  rw [step_idle hl hs]
  cases nextTick s.choices with
  | fast => exact ⟨_, rfl, .inl rfl⟩
  | slow => exact ⟨_, rfl, .inr rfl⟩

end Sys2Proof.Proofs
end

section
/-! PROOF. The statements of 41_timebase_registers.md: the outcome of a register access and of a diagnostic no-op as a
whole next state (R58, R221), the words of the timebase registers (R87), the accesses of the block (R120 to R141). -/

namespace Sys2Proof.Machine

open Sys2Proof

/-! ### Bus accesses of a running device -/

section

variable {s : State} (hs : s.running = true) (b : Block) (a : Offset) (be : Lanes)
include hs

/-- A register read drives the register, or 0 with one record (R58, R221). -/
theorem busAccess_readRegister (v : Word) :
    busAccess (readRegister lanePolicy b a be v) s = .next
      (if laneOk be then { s with rdata := some v }
       else { s with rdata := some 0, diag := s.diag ++ [⟨b, .read, absAddr a, 0, be⟩] }) :=
  busAccess_of_running hs _

/-- A register write replaces the sixteen elements, or leaves one record (R58, R221). -/
theorem busAccess_writeRegister (d : Word) (r : Image) :
    busAccess (writeRegister lanePolicy b a be d r) s = .next
      (if laneOk be then { s with regs := r }
       else { s with diag := s.diag ++ [⟨b, .write, absAddr a, d, be⟩] }) :=
  busAccess_of_running hs _

theorem busAccess_noOpRead :
    busAccess (noOpRead b a be) s = .next
      { s with rdata := some 0, diag := s.diag ++ [⟨b, .read, absAddr a, 0, be⟩] } :=
  busAccess_of_running hs _

theorem busAccess_noOpWrite (d : Word) :
    busAccess (noOpWrite b a be d) s = .next { s with diag := s.diag ++ [⟨b, .write, absAddr a, d, be⟩] } :=
  busAccess_of_running hs _

end

/-! ### The words of bus accesses (R81, R84) -/

/-- A read word at an aligned offset decodes to the event there, whatever stands beside it. -/
theorem decode_readWord {e : Event} {a : Offset} {i : Instr} (hw : e.word = eventWord .busRead a)
    (h8 : a.toNat % 8 = 0) (hi : busReadEvent a e.be = i) : decode e = .event i := by
  rw [decode_of_read hw (kindOf_eventWord ..) (by rwa [offsetField_eventWord]), offsetField_eventWord, hi]

/-- A write word at an aligned offset decodes to the event there, whatever stands beside it. -/
theorem decode_writeWord {e : Event} {a : Offset} {i : Instr} (hw : e.word = eventWord .busWrite a)
    (h8 : a.toNat % 8 = 0) (hi : busWriteEvent a e.be e.data = i) : decode e = .event i := by
  rw [decode_of_write hw (kindOf_eventWord ..) (by rwa [offsetField_eventWord]), offsetField_eventWord, hi]

/-! ### The timebase registers (R87) -/

theorem timebaseAddress_aligned (r : TimebaseReg) : (timebaseAddress r).toNat % 8 = 0 := by
  cases r <;> rfl

theorem busReadEvent_timebaseAddress (be : Lanes) (r : TimebaseReg) :
    busReadEvent (timebaseAddress r) be = timebaseReadEvent be r := by
  cases r <;> rfl

theorem busWriteEvent_timebaseAddress (be : Lanes) (d : Word) (r : TimebaseReg) :
    busWriteEvent (timebaseAddress r) be d = timebaseWriteEvent be d r := by
  cases r <;> rfl

theorem decode_timebaseReadWord {e : Event} (r : TimebaseReg) (hw : e.word = eventWord .busRead (timebaseAddress r)) :
    decode e = .event (timebaseReadEvent e.be r) :=
  decode_readWord hw (timebaseAddress_aligned r) (busReadEvent_timebaseAddress e.be r)

theorem decode_timebaseWriteWord {e : Event} (r : TimebaseReg)
    (hw : e.word = eventWord .busWrite (timebaseAddress r)) :
    decode e = .event (timebaseWriteEvent e.be e.data r) :=
  decode_writeWord hw (timebaseAddress_aligned r) (busWriteEvent_timebaseAddress e.be e.data r)

/-- The read event of a timebase register reads that register (R120 to R129). -/
theorem exec_timebaseReadEvent_eq_readRegister (be : Lanes) (r : TimebaseReg) (s : State) :
    exec (timebaseReadEvent be r) s =
      busAccess (readRegister lanePolicy .ustMsc (timebaseAddress r) be (timebaseValue s.regs r)) s := by
  cases r <;> rfl

/-! ### Any other offset of the timebase block (R130, R141) -/

section

variable {a : Offset} (h : offsetBetween 0x330050 0x33FFF8 a = true) (be : Lanes)
include h

theorem busReadEvent_of_timebaseUnknown : busReadEvent a be = .rdUstMscUnk a be := by
  obtain ⟨-, hb, hr⟩ := timebaseUnknown_iff.mp h
  simp only [busReadEvent, hb, hr]

theorem busWriteEvent_of_timebaseUnknown (d : Word) : busWriteEvent a be d = .wrUstMscUnk a be d := by
  obtain ⟨-, hb, hr⟩ := timebaseUnknown_iff.mp h
  simp only [busWriteEvent, hb, hr]

end

end Sys2Proof.Machine

namespace Sys2Proof.Proofs

open Sys2Proof Sys2Proof.Machine

/-! ### The statements -/

/-- Settles O5: no register stands at such an offset, and both events of it are the diagnostic no-op. -/
theorem unknownTimebaseOffsetIsNoOp : Obligations.UnknownTimebaseOffsetIsNoOp := by
  intro a be d image s hs h
  have h8 : a.toNat % 8 = 0 := (offsetBetween_iff.mp h).1
  refine ⟨?_, ?_, ?_, ?_⟩
  · exact decode_readWord rfl h8 (busReadEvent_of_timebaseUnknown h be)
  · exact busAccess_noOpRead hs .ustMsc a be
  · exact decode_writeWord rfl h8 (busWriteEvent_of_timebaseUnknown h be d)
  · exact busAccess_noOpWrite hs .ustMsc a be d

/-- Settles O1: one argument for the ten registers. -/
theorem timebaseRegisterReadResults : Obligations.TimebaseRegisterReadResults := by
  intro e s hs
  have word (r : TimebaseReg) := decode_timebaseReadWord (e := e) r
  have result (r : TimebaseReg) := (exec_timebaseReadEvent_eq_readRegister e.be r s).trans
    (busAccess_readRegister hs .ustMsc (timebaseAddress r) e.be (timebaseValue s.regs r))
  exact ⟨⟨word .ustMsc, result .ustMsc⟩, ⟨word .compare1, result .compare1⟩,
    ⟨word .compare2, result .compare2⟩, ⟨word .compare3, result .compare3⟩,
    ⟨word .ainMscUst, result .ainMscUst⟩, ⟨word .aout1MscUst, result .aout1MscUst⟩,
    ⟨word .aout2MscUst, result .aout2MscUst⟩, ⟨word .vin1MscUst, result .vin1MscUst⟩,
    ⟨word .vin2MscUst, result .vin2MscUst⟩, ⟨word .voutMscUst, result .voutMscUst⟩⟩

/-- Settles O2: each is a register write of the sixteen elements with its own threshold replaced. -/
theorem compareRegisterWriteResults : Obligations.CompareRegisterWriteResults := by
  intro e s hs
  have result (r : TimebaseReg) := busAccess_writeRegister hs .ustMsc (timebaseAddress r) e.be e.data
  exact ⟨⟨decode_timebaseWriteWord .compare1, result .compare1 _⟩,
    ⟨decode_timebaseWriteWord .compare2, result .compare2 _⟩,
    ⟨decode_timebaseWriteWord .compare3, result .compare3 _⟩⟩

/-- Settles O3: a register write of the sixteen elements as they are. -/
theorem compositeWriteIsIgnored : Obligations.CompositeWriteIsIgnored :=
  fun e s hs => ⟨decode_timebaseWriteWord .ustMsc,
    busAccess_writeRegister hs .ustMsc (timebaseAddress .ustMsc) e.be e.data s.regs⟩

/-- Settles O4: each is the diagnostic no-op at its register's address. -/
theorem snapshotWritesAreLoggedAndIgnored : Obligations.SnapshotWritesAreLoggedAndIgnored := by
  intro e s hs
  have word (r : TimebaseReg) := decode_timebaseWriteWord (e := e) r
  have result (r : TimebaseReg) := busAccess_noOpWrite hs .ustMsc (timebaseAddress r) e.be e.data
  exact ⟨⟨word .ainMscUst, result .ainMscUst⟩, ⟨word .aout1MscUst, result .aout1MscUst⟩,
    ⟨word .aout2MscUst, result .aout2MscUst⟩, ⟨word .vin1MscUst, result .vin1MscUst⟩,
    ⟨word .vin2MscUst, result .vin2MscUst⟩, ⟨word .voutMscUst, result .voutMscUst⟩⟩

end Sys2Proof.Proofs
end

section
/-! PROOF. The statements of 42_isa_block.md: the words of the ISA registers (R88) and the accesses of the block (R150
to R159), each a register access or a diagnostic no-op of a running device. -/

namespace Sys2Proof.Machine

open Sys2Proof

/-! ### The ISA registers (R88) -/

theorem isaAddress_aligned (r : IsaReg) : (isaAddress r).toNat % 8 = 0 := by
  cases r <;> rfl

theorem busReadEvent_isaAddress (be : Lanes) (r : IsaReg) :
    busReadEvent (isaAddress r) be = isaReadEvent be r := by
  cases r <;> rfl

theorem busWriteEvent_isaAddress (be : Lanes) (d : Word) (r : IsaReg) :
    busWriteEvent (isaAddress r) be d = isaWriteEvent be d r := by
  cases r <;> rfl

theorem decode_isaReadWord {e : Event} (r : IsaReg) (hw : e.word = eventWord .busRead (isaAddress r)) :
    decode e = .event (isaReadEvent e.be r) :=
  decode_readWord hw (isaAddress_aligned r) (busReadEvent_isaAddress e.be r)

theorem decode_isaWriteWord {e : Event} (r : IsaReg) (hw : e.word = eventWord .busWrite (isaAddress r)) :
    decode e = .event (isaWriteEvent e.be e.data r) :=
  decode_writeWord hw (isaAddress_aligned r) (busWriteEvent_isaAddress e.be e.data r)

/-- The read event of an ISA register reads that register (R150 to R153). -/
theorem exec_isaReadEvent_eq_readRegister (be : Lanes) (r : IsaReg) (s : State) :
    exec (isaReadEvent be r) s =
      busAccess (readRegister lanePolicy .isa (isaAddress r) be (isaValue s.regs r)) s := by
  cases r <;> rfl

/-! ### Any other offset of the ISA block (R154, R159) -/

section

variable {a : Offset} (h : offsetBetween 0x300020 0x30FFF8 a = true) (be : Lanes)
include h

theorem busReadEvent_of_isaUnknown : busReadEvent a be = .rdIsaUnk a be := by
  obtain ⟨-, hb, hr⟩ := isaUnknown_iff.mp h
  simp only [busReadEvent, hb, hr]

theorem busWriteEvent_of_isaUnknown (d : Word) : busWriteEvent a be d = .wrIsaUnk a be d := by
  obtain ⟨-, hb, hr⟩ := isaUnknown_iff.mp h
  simp only [busWriteEvent, hb, hr]

end

end Sys2Proof.Machine

namespace Sys2Proof.Proofs

open Sys2Proof Sys2Proof.Machine

/-! ### The statements -/

/-- Settles O8: no register stands at such an offset, and both events of it are the diagnostic no-op. -/
theorem unknownIsaOffsetIsNoOp : Obligations.UnknownIsaOffsetIsNoOp := by
  intro a be d image s hs h
  obtain ⟨h8, -, -⟩ := isaUnknown_iff.mp h
  refine ⟨?_, ?_, ?_, ?_⟩
  · exact decode_readWord rfl h8 (busReadEvent_of_isaUnknown h be)
  · exact busAccess_noOpRead hs .isa a be
  · exact decode_writeWord rfl h8 (busWriteEvent_of_isaUnknown h be d)
  · exact busAccess_noOpWrite hs .isa a be d

/-- Settles O6: one argument for the four registers; what is driven for INT_STATUS is the register itself, unmasked. -/
theorem isaRegisterReadResults : Obligations.IsaRegisterReadResults := by
  intro e s hs
  have word (r : IsaReg) := decode_isaReadWord (e := e) r
  have result (r : IsaReg) := (exec_isaReadEvent_eq_readRegister e.be r s).trans
    (busAccess_readRegister hs .isa (isaAddress r) e.be (isaValue s.regs r))
  exact ⟨⟨word .ringbase, result .ringbase⟩, ⟨word .flashNicCtrl, result .flashNicCtrl⟩,
    ⟨word .intStatus, result .intStatus⟩, ⟨word .intMask, result .intMask⟩⟩

/-- Settles O7: each is a register write, of the sixteen elements with its own one replaced or, for INT_STATUS, of the
sixteen elements as they are. -/
theorem isaRegisterWriteResults : Obligations.IsaRegisterWriteResults := by
  intro e s hs
  have word (r : IsaReg) := decode_isaWriteWord (e := e) r
  have result (r : IsaReg) := busAccess_writeRegister hs .isa (isaAddress r) e.be e.data
  exact ⟨⟨word .ringbase, result .ringbase { s.regs with ringbase := e.data }⟩,
    ⟨word .flashNicCtrl, result .flashNicCtrl { s.regs with flashNicCtrl := e.data }⟩,
    ⟨word .intStatus, result .intStatus s.regs⟩,
    ⟨word .intMask, result .intMask { s.regs with intMask := e.data }⟩⟩

end Sys2Proof.Proofs
end

section
/-! PROOF. The statements of 43_stub_blocks.md: a well-formed bus event is what the word of its offset decodes to, and
each access of a stub (R172 to R189) is the diagnostic no-op of a running device; a hole answers without one (R190,
R191). -/

namespace Sys2Proof.Machine

open Sys2Proof

/-! ### The words of well-formed bus events (R81) -/

section

variable {a : Offset} {be : Lanes} {i : Instr} (hi : i.wellFormed = true)
include hi

/-- A well-formed event presented as a read is what the read word of its offset decodes to, whatever data and image
stand beside it. -/
theorem decode_readWord_of_wellFormed (hword : encode i = rdEvent a be) (d : Word) (image : Image) :
    decode ⟨eventWord .busRead a, be, d, image⟩ = .event i := by
  have hsame : decode ⟨eventWord .busRead a, be, d, image⟩ = decode (rdEvent a be) :=
    (decode_read a be d image).trans (decode_read a be 0 Image.zero).symm
  rw [hsame, ← hword, decode_encode_of_wellFormed hi]

/-- A well-formed event presented as a write is what the write word of its offset decodes to, whatever image stands
beside it. -/
theorem decode_writeWord_of_wellFormed {d : Word} (hword : encode i = wrEvent a be d) (image : Image) :
    decode ⟨eventWord .busWrite a, be, d, image⟩ = .event i := by
  have hsame : decode ⟨eventWord .busWrite a, be, d, image⟩ = decode (wrEvent a be d) :=
    (decode_write a be d image).trans (decode_write a be d Image.zero).symm
  rw [hsame, ← hword, decode_encode_of_wellFormed hi]

end

end Sys2Proof.Machine

namespace Sys2Proof.Proofs

open Sys2Proof Sys2Proof.Machine

/-! ### The statements -/

/-- Settles O9: the range of each block is what makes its read event well formed, and every one of them is the
diagnostic no-op of its block. -/
theorem stubReadsGiveZero : Obligations.StubReadsGiveZero := by
  intro a be d image s hs
  have word {i : Instr} (hi : i.wellFormed = true) (hword : encode i = rdEvent a be) :=
    decode_readWord_of_wellFormed hi hword d image
  have result (b : Block) := busAccess_noOpRead hs b a be
  exact ⟨fun h => ⟨word h rfl, result .pci⟩, fun h => ⟨word h rfl, result .vin1⟩,
    fun h => ⟨word h rfl, result .vin2⟩, fun h => ⟨word h rfl, result .vout⟩,
    fun h => ⟨word h rfl, result .enet⟩, fun h => ⟨word h rfl, result .audio⟩,
    fun h => ⟨word h rfl, result .kbdms⟩, fun h => ⟨word h rfl, result .i2c⟩,
    fun h => ⟨word h rfl, result .isaExt⟩⟩

/-- Settles O10: the range of each block is what makes its write event well formed, and every one of them is the
diagnostic no-op of its block. -/
theorem stubWritesAreDiscarded : Obligations.StubWritesAreDiscarded := by
  intro a be d image s hs
  have word {i : Instr} (hi : i.wellFormed = true) (hword : encode i = wrEvent a be d) :=
    decode_writeWord_of_wellFormed hi hword image
  have result (b : Block) := busAccess_noOpWrite hs b a be d
  exact ⟨fun h => ⟨word h rfl, result .pci⟩, fun h => ⟨word h rfl, result .vin1⟩,
    fun h => ⟨word h rfl, result .vin2⟩, fun h => ⟨word h rfl, result .vout⟩,
    fun h => ⟨word h rfl, result .enet⟩, fun h => ⟨word h rfl, result .audio⟩,
    fun h => ⟨word h rfl, result .kbdms⟩, fun h => ⟨word h rfl, result .i2c⟩,
    fun h => ⟨word h rfl, result .isaExt⟩⟩

/-- Settles O11: the two gaps are what makes both events of a hole well formed; the read drives the next draw and the
write acts as the identity. -/
theorem holeReadIsFreeAndHoleWriteDoesNothing : Obligations.HoleReadIsFreeAndHoleWriteDoesNothing := by
  intro a be d image s hs hole
  refine ⟨?_, ?_, ?_, ?_⟩
  · exact decode_readWord_of_wellFormed (i := .rdUnmapped a be) hole rfl d image
  · exact busAccess_of_running hs readHole
  · exact decode_writeWord_of_wellFormed (i := .wrUnmapped a be d) hole rfl image
  · exact busAccess_of_running hs id

end Sys2Proof.Proofs
end

section
/-! PROOF. The statements of 44_rtc_bridge.md: the index of an RTC offset counts 32-byte slots (R201, R202), and each
access of the range is one call on the RTC port of a running device (R203 to R205). -/

namespace Sys2Proof.Machine

open Sys2Proof

/-! ### The index and the datum of a call (R201 to R203) -/

theorem rtcIndex_toNat {a : Offset} (hb : blockAt a = some .rtc) : (rtcIndex a).toNat = (a.toNat - 0x3A0000) / 32 := by
  obtain ⟨hfirst, hend⟩ : 0x3A0000 ≤ a.toNat ∧ a.toNat < 0x3A8000 := blockAt_eq_some_iff.mp hb
  have hboff : (blockOffset .rtc a).toNat = a.toNat - 0x3A0000 := BitVec.toNat_sub_of_le hfirst
  rw [rtcIndex, BitVec.extractLsb'_toNat, hboff, Nat.shiftRight_eq_div_pow]
  omega

theorem rtcIndex_eq_ofNat {a : Offset} (hb : blockAt a = some .rtc) :
    rtcIndex a = BitVec.ofNat 10 ((a.toNat - 0x3A0000) / 32) := by
  rw [← rtcIndex_toNat hb, BitVec.ofNat_toNat, BitVec.setWidth_eq]

theorem rtcDatum_eq_ofNat (d : Word) : rtcDatum d = BitVec.ofNat 8 (d.toNat % 256) := by
  apply BitVec.eq_of_toNat_eq
  rw [rtcDatum, BitVec.extractLsb'_toNat, Nat.shiftRight_zero, BitVec.toNat_ofNat, Nat.mod_mod]

/-- The first offset of the block is a multiple of 32, so its slots are those of the whole window. -/
theorem rtcIndex_eq_iff {a b : Offset} (ha : blockAt a = some .rtc) (hb : blockAt b = some .rtc) :
    rtcIndex a = rtcIndex b ↔ a.toNat / 32 = b.toNat / 32 := by
  have hfirst : 0x3A0000 ≤ a.toNat ∧ 0x3A0000 ≤ b.toNat :=
    ⟨(blockAt_eq_some_iff.mp ha).1, (blockAt_eq_some_iff.mp hb).1⟩
  rw [← BitVec.toNat_inj, rtcIndex_toNat ha, rtcIndex_toNat hb]
  omega

/-! ### The calls of a running device (R204, R205) -/

section

variable {s : State} (hs : s.running = true)
include hs

theorem busAccess_callRtcRead (idx : RtcIndex) :
    busAccess (callRtcRead idx) s = .next
      { s with rdata := some (Config.rtcAnswer s.rtcCalls idx), rtcCalls := s.rtcCalls ++ [.read idx] } :=
  busAccess_of_running hs _

theorem busAccess_callRtcWrite (idx : RtcIndex) (d8 : RtcDatum) :
    busAccess (callRtcWrite idx d8) s = .next { s with rtcCalls := s.rtcCalls ++ [.write idx d8] } :=
  busAccess_of_running hs _

end

end Sys2Proof.Machine

namespace Sys2Proof.Proofs

open Sys2Proof Sys2Proof.Machine

/-! ### The statements -/

/-- Settles O42: the range is the block, and the index counts the slots from its first offset. -/
theorem rtcSlotsAlias : Obligations.RtcSlotsAlias := by
  intro a b hafirst halast hbfirst hblast
  have ha : blockAt a = some .rtc := blockAt_eq_some_iff.mpr ⟨hafirst, Nat.lt_succ_of_le halast⟩
  have hb : blockAt b = some .rtc := blockAt_eq_some_iff.mpr ⟨hbfirst, Nat.lt_succ_of_le hblast⟩
  exact ⟨rtcIndex_toNat ha, rtcIndex_eq_iff ha hb⟩

/-- Settles O12: the range is what makes the read event well formed, and the event is one read call, which asks nothing
of the lane mask. -/
theorem rtcReadForwardsOneCall : Obligations.RtcReadForwardsOneCall := by
  intro a be d image s hs h
  have hb : blockAt a = some .rtc := blockAt_of_offsetBetween h rfl (by decide)
  refine ⟨decode_readWord_of_wellFormed (i := .rdRtc a be) h rfl d image, ?_⟩
  rw [← rtcIndex_eq_ofNat hb]
  exact busAccess_callRtcRead hs (rtcIndex a)

/-- Settles O13: the range is what makes the write event well formed, and the event is one write call of the low byte,
which asks nothing of the lane mask. -/
theorem rtcWriteForwardsLowByte : Obligations.RtcWriteForwardsLowByte := by
  intro a be d image s hs h
  have hb : blockAt a = some .rtc := blockAt_of_offsetBetween h rfl (by decide)
  refine ⟨decode_writeWord_of_wellFormed (i := .wrRtc a be d) h rfl image, ?_⟩
  rw [← rtcIndex_eq_ofNat hb, ← rtcDatum_eq_ofNat d]
  exact busAccess_callRtcWrite hs (rtcIndex a) (rtcDatum d)

end Sys2Proof.Proofs
end

section
/-! PROOF. The statements of 45_host_ops.md: what a stopped device refuses and what it keeps until RESET (R210, R211),
and the image that SAVE gives and RESTORE takes (R212, R213). -/

namespace Sys2Proof.Machine

open Sys2Proof

/-! ### The words of ticks and host operations (R80, R81) -/

/-- The word of a tick or host operation decodes to it, whatever stands beside it but the image of a RESTORE. -/
theorem decode_hostWord {e : Event} {i : Instr} (hi : isBusEvent i = false) (hw : e.word = (encode i).word)
    (himage : ∀ image, i = .restore image → e.image = image) : decode e = .event i := by
  cases i with
  | restore image =>
    obtain rfl := himage image rfl
    simp only [decode, hw, encode, hostEvent, kindOf_eventWord, offsetField_eventWord, ifZero, if_pos]
  | ftick | stick | reset | stop | save =>
    simp only [decode, hw, encode, hostEvent, kindOf_eventWord, offsetField_eventWord, ifZero, if_pos]
  | _ => cases hi

/-! ### The stopped device (R210, R211) -/

theorem exec_busEvent_of_stopped {i : Instr} {s : State} (hi : isBusEvent i = true) (hs : s.running = false) :
    exec i s = .refused .busAccessWhileStopped := by
  cases i with
  | ftick | stick | reset | stop | save | restore => cases hi
  | _ => exact busAccess_of_stopped hs _

/-- An event other than RESET that a stopped device completes leaves it stopped, and keeps its registers unless it is a
RESTORE: a bus event does not complete, and the others write no register. -/
theorem exec_of_stopped {i : Instr} {s t : State} (hs : s.running = false) (hreset : .reset ≠ i)
    (h : exec i s = .next t) : t.running = false ∧ ((∀ image, .restore image ≠ i) → t.regs = s.regs) := by
  obtain ⟨hregs, hrunning, -⟩ := exec_eq_next h
  rw [hs] at hregs hrunning
  cases i with
  | reset => exact absurd rfl hreset
  | restore image => exact ⟨hrunning, fun hrestore => absurd rfl (hrestore image)⟩
  | ftick | stick | stop | save => exact ⟨hrunning, fun _ => hregs⟩
  | _ =>
    rw [exec_busEvent_of_stopped rfl hs] at h
    cases h

/-- A list of events without RESET leaves a stopped device stopped, and keeps its registers if it holds no RESTORE. -/
theorem runEvents_of_stopped {l : List Instr} {s t : State} (hs : s.running = false) (hreset : .reset ∉ l)
    (h : runEvents l s = .next t) : t.running = false ∧ ((∀ image, .restore image ∉ l) → t.regs = s.regs) := by
  induction l generalizing s with
  | nil =>
    cases h
    exact ⟨hs, fun _ => rfl⟩
  | cons i l ih =>
    obtain ⟨hi, hl⟩ := List.ne_and_not_mem_of_not_mem_cons hreset
    obtain ⟨u, hx, hrun⟩ := runEvents_cons_eq_next.mp h
    obtain ⟨hu, hkept⟩ := exec_of_stopped hs hi hx
    obtain ⟨ht, hkepts⟩ := ih hu hl hrun
    refine ⟨ht, fun hrestore => ?_⟩
    have hsplit (image : Image) := List.ne_and_not_mem_of_not_mem_cons (hrestore image)
    exact (hkepts fun image => (hsplit image).2).trans (hkept fun image => (hsplit image).1)

/-! ### The image (R212, R213) -/

theorem withRegs_self (s : State) : withRegs s.regs s = s := rfl

end Sys2Proof.Machine

namespace Sys2Proof.Proofs

open Sys2Proof Sys2Proof.Machine

/-! ### The statements -/

/-- Settles O20: each bus event is a bus access, which a stopped device refuses. -/
theorem stoppedDeviceRefusesBusEvents : Obligations.StoppedDeviceRefusesBusEvents :=
  fun _ _ => exec_busEvent_of_stopped

/-- Settles O17: STOP writes RUNNING alone, a stopped device ignores a tick, and of the events it completes only RESET
starts it again (`runEvents_of_stopped`). -/
theorem stopHaltsBothSources : Obligations.StopHaltsBothSources := by
  refine ⟨fun e s => ⟨fun hw => decode_hostWord rfl hw nofun, rfl⟩, fun s hs => ?_, fun l s t => runEvents_of_stopped⟩
  exact ⟨exec_tick_of_stopped hs .fast, exec_tick_of_stopped hs .slow⟩

/-- Settles O18: the image is the register part of the state, element by element. -/
theorem saveGivesTheSixteenElements : Obligations.SaveGivesTheSixteenElements :=
  fun _ _ => ⟨fun hw => decode_hostWord rfl hw nofun, rfl⟩

/-- Settles O19: RESTORE writes the registers alone, so after SAVE, which keeps them, it writes back what they hold. -/
theorem restoreLoadsTheImage : Obligations.RestoreLoadsTheImage :=
  ⟨fun _ _ => ⟨fun hw => decode_hostWord rfl hw fun _ => Instr.restore.inj, rfl⟩,
    fun s _ => ⟨congrArg Host.Outcome.next (withRegs_self (saveImage s)), rfl⟩⟩

end Sys2Proof.Proofs
end

section
/-! PROOF. The statements of 60_exceptions.md: completion (R220); what an event does when the diagnostic channel or
`INT_MASK` holds something else before it (R224, R231); the two 32-bit views (R252). -/

namespace Sys2Proof.Machine

open Sys2Proof

/-! ### Accesses of a changed state -/

/-- A bus access of a state with the same RUNNING, whose action gives the changed outcome, gives the changed answer. -/
theorem busAccess_eq_mapNext {f act act' : State → State} {s s' : State} (hrunning : s'.running = s.running)
    (hact : act' s' = f (act s)) : busAccess act' s' = mapNext f (busAccess act s) := by
  unfold busAccess
  rw [hrunning, hact]
  cases s.running <;> rfl

/-! ### The diagnostic channel (R221, R224) -/

/-- Whatever the diagnostic channel holds, the event appends `logged` to it and does all the rest alike. -/
def Appends (i : Instr) (logged : List DiagRecord) : Prop :=
  ∀ (s : State) (records : List DiagRecord),
    exec i (withDiag records s) = mapNext (withDiag (records ++ logged)) (exec i s)

/-- The records of an access of a recognized register: `record` alone if the lane mask is unexpected (R223). -/
def laneRecords (be : Lanes) (record : DiagRecord) : List DiagRecord := if laneOk be then [] else [record]

section

variable (b : Block) (a : Offset) (be : Lanes) (v d : Word) (r : Image) (s : State) (records : List DiagRecord)

theorem readRegister_withDiag :
    readRegister lanePolicy b a be v (withDiag records s) =
      withDiag (records ++ laneRecords be ⟨b, .read, absAddr a, 0, be⟩) (readRegister lanePolicy b a be v s) := by
  unfold readRegister laneRecords laneOk
  cases laneOkUnder lanePolicy be with
  | true => simp only [if_true, List.append_nil]; rfl
  | false => rfl

theorem writeRegister_withDiag :
    writeRegister lanePolicy b a be d r (withDiag records s) =
      withDiag (records ++ laneRecords be ⟨b, .write, absAddr a, d, be⟩) (writeRegister lanePolicy b a be d r s) := by
  unfold writeRegister laneRecords laneOk
  cases laneOkUnder lanePolicy be with
  | true => simp only [if_true, List.append_nil]; rfl
  | false => rfl

theorem tickIfRunning_withDiag (tick : Image → Image) :
    tickIfRunning tick (withDiag records s) = withDiag records (tickIfRunning tick s) := by
  unfold tickIfRunning
  cases h : s.running <;> simp [withDiag, withRegs, h]

end

/-- An event of a recognized register that is no snapshot write appends what its lane mask calls for. -/
theorem length_laneRecords {i : Instr} {be : Lanes} (hlanes : recognizedLanes i = some be) (ha : anomalyA i = false)
    (hw : writesSnapshot i = false) (record : DiagRecord) :
    (laneRecords be record).length = if anomalyA i || anomalyB i || writesSnapshot i then 1 else 0 := by
  simp only [laneRecords, anomalyB, hlanes, ha, hw]
  cases laneOk be <;> rfl

/-- An event appends one record if it is an anomaly or a snapshot write, none otherwise, whatever was there before. -/
theorem exec_appends (i : Instr) :
    ∃ logged, logged.length = (if anomalyA i || anomalyB i || writesSnapshot i then 1 else 0) ∧ Appends i logged := by
  cases i with
  | rdUstMsc | rdCompare1 | rdCompare2 | rdCompare3 | rdAinMscUst | rdAout1MscUst | rdAout2MscUst | rdVin1MscUst
  | rdVin2MscUst | rdVoutMscUst | rdRingbase | rdFlashNicCtrl | rdIntStatus | rdIntMask =>
    exact ⟨_, length_laneRecords rfl rfl rfl _,
      fun s records => busAccess_eq_mapNext rfl (readRegister_withDiag _ _ _ _ s records)⟩
  | wrUstMsc | wrCompare1 | wrCompare2 | wrCompare3 | wrRingbase | wrFlashNicCtrl | wrIntStatus | wrIntMask =>
    exact ⟨_, length_laneRecords rfl rfl rfl _,
      fun s records => busAccess_eq_mapNext rfl (writeRegister_withDiag _ _ _ _ _ s records)⟩
  | wrAinMscUst be d | wrAout1MscUst be d | wrAout2MscUst be d | wrVin1MscUst be d | wrVin2MscUst be d
  | wrVoutMscUst be d =>
    refine ⟨[_], ?_, fun s records => busAccess_eq_mapNext rfl rfl⟩
    rw [writesSnapshot, Bool.or_true]
    rfl
  | ftick | stick =>
    refine ⟨[], rfl, fun s records => ?_⟩
    rw [List.append_nil]
    exact congrArg Host.Outcome.next (tickIfRunning_withDiag s records _)
  | reset | stop | save | restore =>
    refine ⟨[], rfl, fun s records => ?_⟩
    rw [List.append_nil]
    rfl
  | rdUnmapped | wrUnmapped | rdRtc | wrRtc =>
    refine ⟨[], rfl, fun s records => ?_⟩
    rw [List.append_nil]
    exact busAccess_eq_mapNext rfl rfl
  | _ => exact ⟨[_], rfl, fun s records => busAccess_eq_mapNext rfl rfl⟩

/-- The channel after an event is the channel before it and the records the event appends. -/
theorem Appends.diag {i : Instr} {logged : List DiagRecord} (h : Appends i logged) {s t : State}
    (hx : exec i s = .next t) : t.diag = s.diag ++ logged := by
  have hs : exec i s = mapNext (withDiag (s.diag ++ logged)) (exec i s) := h s s.diag
  rw [hx] at hs
  exact congrArg State.diag (Host.Outcome.next.inj hs)

/-- What the channel held does not show once it is emptied. -/
theorem mapNext_withDiag_mapNext_withDiag (records records' : List DiagRecord) (x : Result) :
    mapNext (withDiag records) (mapNext (withDiag records') x) = mapNext (withDiag records) x := by
  cases x <;> rfl

/-! ### The interrupt mask (R35, R231) -/

section

variable (p : LanePolicy) (b : Block) (a : Offset) (be : Lanes) (v d m : Word) {r r' : Image} (s : State)

theorem readRegister_withMask :
    readRegister p b a be v (withMask m s) = withMask m (readRegister p b a be v s) := by
  unfold readRegister
  cases laneOkUnder p be <;> rfl

/-- A write whose elements differ in the mask alone leaves states that differ in the mask alone. -/
theorem writeRegister_withMask (hr : r' = { r with intMask := m }) :
    writeRegister p b a be d r' (withMask m s) = withMask m (writeRegister p b a be d r s) := by
  subst hr
  unfold writeRegister
  cases laneOkUnder p be <;> rfl

/-- A tick that neither reads nor writes the mask leaves states that differ in the mask alone. -/
theorem tickIfRunning_withMask {tick : Image → Image}
    (htick : ∀ r : Image, tick { r with intMask := m } = { tick r with intMask := m }) :
    tickIfRunning tick (withMask m s) = withMask m (tickIfRunning tick s) := by
  unfold tickIfRunning
  cases h : s.running <;> simp [withMask, withRegs, h, htick]

end

/-- An event that neither reads nor replaces the mask does the same under any mask, and keeps it. -/
theorem exec_withMask {i : Instr} (hi : touchesMask i = false) (m : Word) (s : State) :
    exec i (withMask m s) = mapNext (withMask m) (exec i s) := by
  cases i with
  | rdIntMask | wrIntMask | save | reset | restore => cases hi
  | ftick | stick => exact congrArg Host.Outcome.next (tickIfRunning_withMask m s fun _ => rfl)
  | stop => rfl
  | rdUstMsc | rdCompare1 | rdCompare2 | rdCompare3 | rdAinMscUst | rdAout1MscUst | rdAout2MscUst | rdVin1MscUst
  | rdVin2MscUst | rdVoutMscUst | rdRingbase | rdFlashNicCtrl | rdIntStatus =>
    exact busAccess_eq_mapNext rfl (readRegister_withMask _ _ _ _ _ m s)
  | wrUstMsc | wrCompare1 | wrCompare2 | wrCompare3 | wrRingbase | wrFlashNicCtrl | wrIntStatus =>
    exact busAccess_eq_mapNext rfl (writeRegister_withMask _ _ _ _ _ m s rfl)
  | _ => exact busAccess_eq_mapNext rfl rfl

end Sys2Proof.Machine

namespace Sys2Proof.Proofs

open Sys2Proof Sys2Proof.Machine

/-! ### The statements -/

/-- Settles O21: no access of a running device is refused, and a tick or host operation never is (`exec_completes`). -/
theorem everyEventOfARunningDeviceCompletes : Obligations.EveryEventOfARunningDeviceCompletes :=
  fun i _ hs => exec_completes hs i

/-- Settles O38: the records the event appends are those `exec_appends` counts. -/
theorem anomaliesAppendOneRecord : Obligations.AnomaliesAppendOneRecord := by
  intro i s t _ hx
  obtain ⟨logged, hlength, happends⟩ := exec_appends i
  exact ⟨logged, happends.diag hx, hlength⟩

/-- Settles O39: the two answers differ in the records before those the event appends (`exec_appends`). -/
theorem diagnosticChannelIsOutputOnly : Obligations.DiagnosticChannelIsOutputOnly := by
  intro i s records
  obtain ⟨logged, -, happends⟩ := exec_appends i
  rw [happends s records, mapNext_withDiag_mapNext_withDiag]

/-- Settles O40: by the event, none of the others having the mask in its meaning (`exec_withMask`). -/
theorem maskIsStoredAndAppliedToNothing : Obligations.MaskIsStoredAndAppliedToNothing :=
  fun _ s m hi => exec_withMask hi m s

/-- Settles O58: a coherent composite is made of the two counters, and its halves give them back. -/
theorem splitViewShowsTheComposite : Obligations.SplitViewShowsTheComposite := by
  intro s hs
  rw [hs]
  exact ⟨(ustHalf_compose ..).symm, (mscHalf_compose ..).symm⟩

end Sys2Proof.Proofs
end

section
/-! PROOF. The statements of 70_reset_and_hazards.md: the timed refinement, one source at a time (R284 to R286, R262);
RESET (R261); lane masks under either policy (R277); a compare register written with the present composite (R271). -/

namespace Sys2Proof.Machine

open Sys2Proof

/-! ### The tick due soonest (R284, R285) -/

section

variable {order : TickSource} {t : TimedState}

theorem nextFast_le_of_dueSource (hd : dueSource order t = .fast) : t.nextFast ≤ t.nextSlow := by
  by_contra h
  simp [dueSource, show ¬ t.nextFast < t.nextSlow by omega, show t.nextSlow < t.nextFast by omega] at hd

theorem nextSlow_le_of_dueSource (hd : dueSource order t = .slow) : t.nextSlow ≤ t.nextFast := by
  by_contra h
  simp [dueSource, show t.nextFast < t.nextSlow by omega] at hd

theorem dueSource_of_coincidence (hdue : t.nextFast = t.nextSlow) : dueSource order t = order := by
  simp [dueSource, hdue]

/-- The coincidences met by the time of the next tick (log 8). -/
def coincidencesMet (t : TimedState) : Nat :=
  if t.nextFast = t.nextSlow then t.coincidences + 1 else t.coincidences

/-- Where the fast source is due, it ticks and is armed anew, and the slow one is that much nearer. -/
theorem timedTickUnder_fast (hr : t.core.running = true) (hd : dueSource order t = .fast) :
    timedTickUnder order t = .next ⟨withRegs (fastTick t.core.regs) t.core, 960, t.nextSlow - t.nextFast,
      t.elapsed + t.nextFast, coincidencesMet t⟩ := by
  have h := timedTickUnder_of_running hr order
  rw [hd, min_eq_left (nextFast_le_of_dueSource hd)] at h
  exact h

/-- Where the slow source is due, it ticks and is armed anew, and the fast one is that much nearer. -/
theorem timedTickUnder_slow (hr : t.core.running = true) (hd : dueSource order t = .slow) :
    timedTickUnder order t = .next ⟨withRegs (slowTick t.core.regs) t.core, t.nextFast - t.nextSlow, 1000000,
      t.elapsed + t.nextSlow, coincidencesMet t⟩ := by
  have h := timedTickUnder_of_running hr order
  rw [hd, min_eq_right (nextSlow_le_of_dueSource hd)] at h
  exact h

end

/-! ### Events that are not ticks (R262, R286) -/

section

variable {i : Instr} {t t' : TimedState}

theorem timedEvent_tick (source : TickSource) (t : TimedState) : timedEvent (tickEvent source) t = .next t := by
  cases source <;> rfl

/-- An event that is not a tick completes with its untimed part; it takes no time, and RESET arms both sources. -/
theorem timedEvent_eq_next_iff (htick : isTick i = false) :
    timedEvent i t = .next t' ↔ ∃ c, exec i t.core = .next c ∧
      t' = if i = .reset then armSources c t.coincidences else { t with core := c } := by
  unfold timedEvent
  split
  · cases htick
  · cases htick
  · cases exec i t.core <;> simp [eq_comm]

end

/-! ### The invariant of one source (R284) -/

/-- What `TimedInv` says of one source: its counter is the number of its ticks modulo 2^32, and its next tick is due one
whole period after the latest. -/
def SourceInv (period elapsed next : Nat) (counter : Half) : Prop :=
  next ≤ period ∧ ∃ n, counter = BitVec.ofNat 32 n ∧ elapsed + next = period * (n + 1)

theorem timedInv_iff {t : TimedState} :
    TimedInv t ↔ SourceInv 960 t.elapsed t.nextFast t.core.regs.ust ∧
      SourceInv 1000000 t.elapsed t.nextSlow t.core.regs.msc :=
  ⟨fun ⟨hfast, hslow, hust, hmsc⟩ => ⟨⟨hfast, hust⟩, hslow, hmsc⟩,
    fun ⟨⟨hfast, hust⟩, hslow, hmsc⟩ => ⟨hfast, hslow, hust, hmsc⟩⟩

namespace SourceInv

variable {period elapsed next : Nat} {counter : Half}

theorem armed (period : Nat) : SourceInv period 0 period 0 :=
  ⟨le_rfl, 0, rfl, by omega⟩

theorem wait (h : SourceInv period elapsed next counter) {d : Nat} (hd : d ≤ next) :
    SourceInv period (elapsed + d) (next - d) counter := by
  obtain ⟨hnext, n, hcounter, hdue⟩ := h
  exact ⟨by omega, n, hcounter, by omega⟩

theorem tick (h : SourceInv period elapsed next counter) : SourceInv period (elapsed + next) period (counter + 1) := by
  obtain ⟨-, n, rfl, hdue⟩ := h
  exact ⟨le_rfl, n + 1, (BitVec.ofNat_add ..).symm, by rw [hdue, Nat.mul_succ period (n + 1)]⟩

/-- Unless a tick is due, the ticks there have been are the whole periods elapsed. -/
theorem counter_eq (h : SourceInv period elapsed next counter) (hpending : 0 < next) :
    counter = BitVec.ofNat 32 (elapsed / period) := by
  obtain ⟨hnext, n, rfl, hdue⟩ := h
  rw [Nat.mul_succ] at hdue
  have hperiods : elapsed / period = n :=
    Nat.div_eq_of_lt_le (by rw [Nat.mul_comm]; omega) (by rw [Nat.mul_comm, Nat.mul_succ]; omega)
  rw [hperiods]

end SourceInv

/-! ### The timed invariant (R284) -/

/-- Arming both sources meets the invariant where both counters are zero, as RESET leaves them. -/
theorem timedInv_armSources {core : State} (hregs : core.regs = Image.zero) (coincidences : Nat) :
    TimedInv (armSources core coincidences) := by
  rw [timedInv_iff]
  simp only [armSources, hregs]
  exact ⟨.armed 960, .armed 1000000⟩

theorem timedInv_timedWait {t : TimedState} (h : TimedInv t) (d : Nat) : TimedInv (timedWait d t) := by
  obtain ⟨hfast, hslow⟩ := timedInv_iff.mp h
  unfold timedWait
  split
  · exact timedInv_iff.mpr ⟨hfast.wait (by omega), hslow.wait (by omega)⟩
  · exact h

/-- Either tick keeps the invariant: its source has ticked once more, and for the other it was a wait. -/
theorem timedInv_timedTickUnder {order : TickSource} {t t' : TimedState} (h : TimedInv t)
    (ht : timedTickUnder order t = .next t') : TimedInv t' := by
  obtain ⟨hfast, hslow⟩ := timedInv_iff.mp h
  cases hr : t.core.running with
  | false =>
    rw [timedTickUnder_of_stopped hr] at ht
    cases ht
    exact h
  | true =>
    cases hd : dueSource order t with
    | fast =>
      rw [timedTickUnder_fast hr hd] at ht
      cases ht
      exact timedInv_iff.mpr ⟨hfast.tick, hslow.wait (nextFast_le_of_dueSource hd)⟩
    | slow =>
      rw [timedTickUnder_slow hr hd] at ht
      cases ht
      exact timedInv_iff.mpr ⟨hfast.wait (nextSlow_le_of_dueSource hd), hslow.tick⟩

/-- Only ticks, RESET and RESTORE write a counter (R24, R25). -/
theorem exec_keeps_counters {i : Instr} {s t : State} (htick : isTick i = false) (hreset : i ≠ .reset)
    (hrestore : ∀ image, i ≠ .restore image) (h : exec i s = .next t) :
    t.regs.ust = s.regs.ust ∧ t.regs.msc = s.regs.msc := by
  obtain ⟨hust, hmsc, -⟩ := Proofs.registersHaveOnlyTheirWriters i s t h hreset hrestore
  constructor <;> by_contra hne
  · cases hust hne
    cases htick
  · cases hmsc hne
    cases htick

theorem timedInv_timedEvent {i : Instr} {t t' : TimedState} (h : TimedInv t) (hrestore : ∀ image, i ≠ .restore image)
    (ht : timedEvent i t = .next t') : TimedInv t' := by
  cases htick : isTick i with
  | true =>
    obtain ⟨source, rfl⟩ := isTick_iff.mp htick
    cases (timedEvent_tick source t).symm.trans ht
    exact h
  | false =>
    obtain ⟨c, hx, rfl⟩ := (timedEvent_eq_next_iff htick).mp ht
    split
    next hreset =>
      subst hreset
      exact timedInv_armSources (exec_regs hx) t.coincidences
    next hreset =>
      obtain ⟨hust, hmsc⟩ := exec_keeps_counters htick hreset hrestore hx
      rw [timedInv_iff] at h ⊢
      simpa only [hust, hmsc] using h

/-! ### The composite after a tick (R271) -/

/-- A tick moves an exact composite away from its value. -/
theorem countTick_ustMsc_ne {r : Image} (h : Coherent r) (source : TickSource) :
    (countTick source r).ustMsc ≠ r.ustMsc := by
  unfold Coherent at h
  cases source with
  | fast => simp [countTick, h, compose_inj]
  | slow => simp [countTick, h, compose_inj]

/-- A tick leaves a status bit as it was if no comparator the bit belongs to matches then (R103). -/
theorem tick_keeps_bit {source : TickSource} {r : Image} {k : Nat} (hk : k < 64)
    (h1 : k = c1Bit → (countTick source r).ustMsc ≠ r.compare1)
    (h2 : k = c2Bit → (countTick source r).ustMsc ≠ r.compare2)
    (h3 : k = c3Bit → (countTick source r).ustMsc ≠ r.compare3) :
    (compareEvaluate (countTick source r)).intStatus.getLsbD k = r.intStatus.getLsbD k := by
  rw [Bool.eq_iff_iff, compareEvaluate_getLsbD_iff _ hk, countTick_intStatus, countTick_compare1, countTick_compare2,
    countTick_compare3]
  tauto

end Sys2Proof.Machine

namespace Sys2Proof.Proofs

open Sys2Proof Sys2Proof.Machine

/-! ### The statements -/

/-- Settles O55: the counters source by source (`SourceInv.counter_eq`), and the invariant by what happens to the time
and the counters in a tick, a wait and an event. -/
theorem timedCountersAreElapsedOverPeriod : Obligations.TimedCountersAreElapsedOverPeriod := by
  intro t h
  obtain ⟨hfast, hslow⟩ := timedInv_iff.mp h
  exact ⟨hfast.counter_eq, hslow.counter_eq, fun _ _ => timedInv_timedTickUnder h, timedInv_timedWait h,
    fun _ _ => timedInv_timedEvent h⟩

/-- Settles O35: the write changes one threshold only; the tick then moves the composite away from it, and the other
comparators have bits of their own. -/
theorem writingThePresentValueDoesNotMatch : Obligations.WritingThePresentValueDoesNotMatch := by
  intro s i hs hc hi
  obtain ⟨source, rfl⟩ := isTick_iff.mp hi
  have written (r : TimebaseReg) := busAccess_writeRegister hs .ustMsc (timebaseAddress r) 0xFF s.regs.ustMsc
  have ticked (r : Image) := exec_tick (s := { s with regs := r }) hs source
  have moved (r : Image) (hr : Coherent r) := countTick_ustMsc_ne hr source
  refine ⟨⟨_, _, written .compare1 _, ticked _, rfl, ?_⟩, ⟨_, _, written .compare2 _, ticked _, rfl, ?_⟩,
    ⟨_, _, written .compare3 _, ticked _, rfl, ?_⟩⟩
  · exact tick_keeps_bit c1Bit_lt (fun _ => moved _ hc) (absurd · c1Bit_ne_c2Bit) (absurd · c1Bit_ne_c3Bit)
  · exact tick_keeps_bit c2Bit_lt (absurd · c1Bit_ne_c2Bit.symm) (fun _ => moved _ hc) (absurd · c2Bit_ne_c3Bit)
  · exact tick_keeps_bit c3Bit_lt (absurd · c1Bit_ne_c3Bit.symm) (absurd · c2Bit_ne_c3Bit.symm) (fun _ => moved _ hc)

/-- Settles O54: by the source that is due. -/
theorem timedTicksAreUntimedTicks : Obligations.TimedTicksAreUntimedTicks := by
  intro order t hr
  cases hd : dueSource order t with
  | fast =>
    refine ⟨_, timedTickUnder_fast hr hd, .inl (exec_tickEvent hr .fast), ?_⟩
    rw [min_eq_left (nextFast_le_of_dueSource hd)]
  | slow =>
    refine ⟨_, timedTickUnder_slow hr hd, .inr (exec_tickEvent hr .slow), ?_⟩
    rw [min_eq_right (nextSlow_le_of_dueSource hd)]

/-- Settles O56: the first tick leaves its source a whole period to go and the other one none, so the other comes next. -/
theorem coincidentTicksAdmitBothOrders : Obligations.CoincidentTicksAdmitBothOrders := by
  intro t order hr hc hdue
  refine ⟨_, _, _, _, timedTickUnder_fast hr (dueSource_of_coincidence hdue), timedTickUnder_slow hr ?_,
    timedTickUnder_slow hr (dueSource_of_coincidence hdue), timedTickUnder_fast hr ?_, coherent_fastTick hc,
    coherent_slowTick hc, coherent_slowTick (coherent_fastTick hc), coherent_fastTick (coherent_slowTick hc), ?_, ?_⟩
  · simp [dueSource, hdue]
  · simp [dueSource, hdue]
  · simp [hdue]
  · simp [hdue]

/-- Settles O57: RESET and the other events by the one rule for events that are not ticks (`timedEvent_eq_next_iff`). -/
theorem timedEventsTakeNoTimeAndResetArms : Obligations.TimedEventsTakeNoTimeAndResetArms :=
  fun _ => ⟨⟨_, rfl, (timedEvent_eq_next_iff rfl).mpr ⟨_, rfl, rfl⟩⟩,
    fun _ c hreset htick hx => (timedEvent_eq_next_iff htick).mpr ⟨c, hx, (if_neg hreset).symm⟩⟩

/-- Settles O16: RESET answers from every state, with the registers the machine starts with. -/
theorem resetZeroesRegistersAndArmsSources : Obligations.ResetZeroesRegistersAndArmsSources :=
  fun _ _ => ⟨fun hw => decode_hostWord rfl hw nofun, rfl, rfl, rfl⟩

/-- Settles O37: the access by its two cases, the whole register or the diagnostic no-op. -/
theorem subWordAccessNeverMergesLanes : Obligations.SubWordAccessNeverMergesLanes := by
  have hstrict (be : Lanes) : laneOkUnder .strict be = true ↔ be = 0xFF := beq_iff_eq
  refine ⟨fun be => ⟨hstrict be, rfl, rfl⟩, fun b a be v d r s hbe => ?_⟩
  have hpartial : laneOkUnder .strict be = false := by simpa using (hstrict be).not.mpr hbe
  refine ⟨?_, readRegister_regs .., ?_, rfl, rfl⟩
  · simp [hpartial]
  · simp [hpartial]

/-- Settles O60: both are states with the counters zero and both sources armed (`timedInv_armSources`). -/
theorem timedInvariantHoldsAtReset : Obligations.TimedInvariantHoldsAtReset := by
  refine ⟨timedInv_armSources rfl 0, fun t t' h => ?_⟩
  obtain ⟨c, hx, rfl⟩ := (timedEvent_eq_next_iff rfl).mp h
  exact timedInv_armSources (exec_regs hx) t.coincidences

end Sys2Proof.Proofs
end
